-- ==== Sys2Proof/Word.lean ====
section
/-! DEFINITION. The plain words of the block and the small closed sets of names the rules use (R21, R22, R24, R100, R124). -/

namespace Sys2Proof

/-- A `u8`: a bus byte, a window field, a table entry (R22). -/
abbrev Byte := BitVec 8

/-- A 16-bit halfword: a source pixel (`u16`, R75) or an intensity cell (`s16`, R169). -/
abbrev Half := BitVec 16

/-- A `u32`: a register value, a source-memory address (R73, R70). -/
abbrev Word := BitVec 32

/-- A panel identifier (R124): the left panel is 0 (CS0), the right panel is 1 (CS1). -/
inductive Panel where
  | left
  | right
deriving DecidableEq, Repr

/-- What the mode line says of the byte on the data lines (R50, R121). -/
inductive BusMode where
  | cmd
  | data
deriving DecidableEq, Repr

/-- The direction of a host transaction (R100). -/
inductive Dir where
  | rd
  | wr
deriving DecidableEq, Repr

/-- A host transaction (R100): direction, byte offset in the register space and write data, with the access width in
bits that R72 constrains to 32. The data of a read is not an operand. -/
structure Transaction where
  dir   : Dir
  off   : Byte
  width : Nat
  data  : Word
deriving DecidableEq, Repr

end Sys2Proof
end

