-- ==== Sys2Proof/Config.lean ====
section
/-! DEFINITION. The configuration parameters (R11 to R19), the fixed constants (R20) and the free values: what an
implementation fixes and what the spec leaves open. A free value is an opaque constant: nothing can be proved of it. -/

namespace Sys2Proof

/-- The source pixel format (R13). -/
inductive PixFmt where
  | rgb565
  | rgb555
deriving DecidableEq, Repr

/-- The configuration parameters of R11 to R19 as plain data. `colCmd` and `pageCmd` are the tables of `COL_CMD` and
`PAGE_CMD` (R16), entry `c` being the byte of address `c`. `srcHoles` lists the inclusive address ranges of the source
memory at which the platform admits no read (R80), the same at every FLUSH (log 25). -/
structure Params where
  width        : Nat
  height       : Nat
  panelCols    : Nat
  panelPages   : Nat
  pixFmt       : PixFmt
  wr           : Nat
  wg           : Nat
  wb           : Nat
  wden         : Nat
  cmdDisplayOn : Byte
  colCmd       : List Byte
  pageCmd      : List Byte
  clkHz        : Nat
  tSuCyc       : Nat
  csActiveHigh : Bool
  modeCmdLevel : Bool
  rwWriteLevel : Bool
  eActiveHigh  : Bool
  linesOk      : Bool
  regBase      : Word
  srcHoles     : List (Nat × Nat)
deriving DecidableEq, Repr

/-- One answer of the line layer for one emitted byte (R222): OK, or the failure code `code + 1` in 1 to 255 with the
number of the byte's six events that showed before the recovery (0 to 6). -/
inductive LineDraw where
  | ok
  | fail (code : Fin 255) (shown : Fin 7)
deriving DecidableEq, Repr, Inhabited

/-- BLACK is 0 (R20). -/
def Config.black : Int := 0

/-- WHITE is 255 (R20). -/
def Config.white : Int := 255

/-- The sentinel coefficient of the kernel: overwrite with the quantized value (R160, R166). -/
def Config.sentinel : Int := -1

/-- KERNEL `{-1,3;3,2}` as cells `(dx, dy, coefficient)` (R46, R160). -/
def Config.kernel : List (Nat × Nat × Int) :=
  [(0, 0, Config.sentinel), (1, 0, 3), (0, 1, 3), (1, 1, 2)]

/-- The normalization constant (R161). -/
def Config.norm : Int := 8

/-- The minimum time in ns the latch line is held asserted (R17). -/
def Config.tEhNs : Nat := 5000

/-- The minimum time in ns the latch line is held deasserted after each byte (R17). -/
def Config.tElNs : Nat := 1000

/-- FREE VALUE (log 3): the contents of GAMMA, an OPEN parameter (R14, D13). -/
opaque Config.gammaTable : Vector Byte 256

/-- FREE VALUE (log 2): CLK_HZ, an OPEN parameter (R17). -/
opaque Config.clkHz : Nat

/-- FREE VALUE (log 2): REG_BASE, an OPEN parameter (R19). That it has 32 bits is log 26. -/
opaque Config.regBase : Word

/-- FREE VALUE (log 5): the line layer's answer when the environment's list holds none, by draw number (R222). -/
opaque Config.lineDraw : Nat → LineDraw

/-- FREE VALUE (log 6): the byte at an admitted source address that nothing has listed, by address (R78). -/
opaque Config.unwrittenByte : Nat → Byte

/-- FREE VALUE (log 7): which candidate a racing byte reads as, by FLUSH number and address (R83). -/
opaque Config.raceChoice : Nat → Nat → Nat

/-- FREE VALUE (log 11): the intensity plane after a reset or a FLUSH, by number (R47, R334). -/
opaque Config.freePlane : Nat → List (List Half)

/-- FREE VALUE (log 11): a line buffer after a reset or a FLUSH, by number and buffer index (R48, R334). -/
opaque Config.freeRow : Nat → Nat → List Half

/-- FREE VALUE (log 11): the bit plane after a reset or a FLUSH, by number (R49, R334). -/
opaque Config.freeBits : Nat → List (List Bool)

/-- FREE VALUE (log 12): the byte of a column command outside COL_CMD's table, by address (R16, R125). -/
opaque Config.freeColCmd : Nat → Byte

/-- FREE VALUE (log 12): the byte of a page command outside PAGE_CMD's table, by address (R16, R125). -/
opaque Config.freePageCmd : Nat → Byte

/-- The default parameters (R11 to R18); LINES_OK and the absence of source-memory holes are the model's choice
(DESIGN CHOICE, log 2); CLK_HZ and REG_BASE are free. -/
def Config.defaults : Params :=
  { width := 128, height := 64, panelCols := 64, panelPages := 8, pixFmt := .rgb565
    wr := 299, wg := 587, wb := 114, wden := 1000
    cmdDisplayOn := 0x3F
    colCmd := (List.range 64).map fun c => 0x40 ||| BitVec.ofNat 8 c
    pageCmd := (List.range 8).map fun p => 0xB8 ||| BitVec.ofNat 8 p
    clkHz := Config.clkHz, tSuCyc := 1
    csActiveHigh := true, modeCmdLevel := false, rwWriteLevel := false, eActiveHigh := true
    linesOk := true, regBase := Config.regBase, srcHoles := [] }

end Sys2Proof
end

