-- ==== Sys2Proof/Syntax.lean ====
section
/-! DEFINITION. The instructions: one constructor per row of spec/opcode_table.json. The first twenty are the HOST
transactions (R100 to R115), the last six the BUS bytes the block emits (R121, R233 to R236, R239). -/

namespace Sys2Proof

/-- The rows of the opcode table. Operands are the fields the encoding rules name; a field the rules ignore on write is
no operand (R113). -/
inductive Instr where
  /-- RD_CTRL (R263). -/
  | rdCtrl
  /-- WR_CTRL: DITHER = data[0], NEG = data[1] (R103, R262). -/
  | wrCtrl (dither neg : Bool)
  /-- RD_WINDOW (R105, R266). -/
  | rdWindow
  /-- SET_WINDOW: pixel columns and pixel rows (R104, R253). -/
  | setWindow (xs ys xe ye : Byte)
  /-- RD_FLUSH: a read of a write-only register (R115). -/
  | rdFlush
  /-- FLUSH (R254). -/
  | flush
  /-- RD_FB_BASE (R265). -/
  | rdFbBase
  /-- WR_FB_BASE: the address written (R107, R264). -/
  | wrFbBase (addr : Word)
  /-- RD_BUS_CMD: a read of a write-only register (R115). -/
  | rdBusCmd
  /-- BUS_CMD: panel and command byte (R108, R260). -/
  | busCmd (h : Panel) (b : Byte)
  /-- RD_BUS_DATA: a read of a write-only register (R115). -/
  | rdBusData
  /-- BUS_DATA: panel and data byte (R109, R261). -/
  | busData (h : Panel) (b : Byte)
  /-- RD_STATUS (R110, R267). -/
  | rdStatus
  /-- WR_STATUS: a write to a read-only register (R115). -/
  | wrStatus
  /-- RD_ERR_INFO (R111, R268). -/
  | rdErrInfo
  /-- WR_ERR_INFO: a write to a read-only register (R115). -/
  | wrErrInfo
  /-- RD_GEOM (R112, R269). -/
  | rdGeom
  /-- WR_GEOM: a write to a read-only register (R115). -/
  | wrGeom
  /-- RD_UNMAPPED: a read at an unmapped offset (R114). -/
  | rdUnmapped (off : Byte)
  /-- WR_UNMAPPED: a write at an unmapped offset (R114). -/
  | wrUnmapped (off : Byte)
  /-- DISPLAY_ON: the first byte of a FLUSH transfer (R233). -/
  | displayOn
  /-- SET_COLUMN c: the second byte of a FLUSH transfer (R234). -/
  | setColumn (c : Byte)
  /-- SET_PAGE p: the third byte of a FLUSH transfer (R235). -/
  | setPage (p : Byte)
  /-- PAGE_DATA b: a packed column byte of a FLUSH transfer (R236). -/
  | pageData (b : Byte)
  /-- RAW_CMD b: the byte BUS_CMD emits (R239, R260). -/
  | rawCmd (b : Byte)
  /-- RAW_DATA b: the byte BUS_DATA emits (R239, R261). -/
  | rawData (b : Byte)
deriving DecidableEq, Repr

end Sys2Proof
end

