-- ==== Sys2Proof/WellFormed.lean ====
section
/-! DEFINITION. Which instructions the encoding admits: unmapped offsets lie outside the register map and are aligned
(R102, R114, R72), column and page addresses lie inside the command tables (R121, R125). -/

namespace Sys2Proof

/-- An offset is a multiple of 4 (R72). -/
def alignedOff (off : Byte) : Bool := off.toNat % 4 == 0

/-- An aligned offset no register of R101 has: 0x24 to 0xFC (R71, R114). -/
def unmappedOff (off : Byte) : Bool := alignedOff off && decide (0x24 ≤ off.toNat)

/-- The operand checks, under the default command encodings of the opcode table (R121): a column address has 6 bits, a
page address 3. Every other operand takes every value of its type (R113: no data value is illegal). -/
def Instr.wellFormed : Instr → Bool
  | .rdUnmapped off => unmappedOff off
  | .wrUnmapped off => unmappedOff off
  | .setColumn c => decide (c.toNat < 64)
  | .setPage p => decide (p.toNat < 8)
  | .rdCtrl => true
  | .wrCtrl _ _ => true
  | .rdWindow => true
  | .setWindow _ _ _ _ => true
  | .rdFlush => true
  | .flush => true
  | .rdFbBase => true
  | .wrFbBase _ => true
  | .rdBusCmd => true
  | .busCmd _ _ => true
  | .rdBusData => true
  | .busData _ _ => true
  | .rdStatus => true
  | .wrStatus => true
  | .rdErrInfo => true
  | .wrErrInfo => true
  | .rdGeom => true
  | .wrGeom => true
  | .displayOn => true
  | .pageData _ => true
  | .rawCmd _ => true
  | .rawData _ => true

end Sys2Proof
end

