-- ==== Sys2Proof/Decode.lean ====
section
/-! DEFINITION. Decoding of host transactions (R100 to R115) and of emitted bus bytes (R121), total, rejecting by name; the
encoder beside it; the 16-bit table words of spec/opcode_table.json; the pseudo-operations and listing of R117, R118. -/

namespace Sys2Proof

/-- Why a word is no instruction. -/
inductive Reject where
  /-- A register access that is not 32 bits wide (R72, R302). -/
  | width
  /-- A register access at an offset that is not a multiple of 4 (R72, R302). -/
  | alignment
  /-- A command byte that no FLUSH transfer emits under the default command encodings (R121). -/
  | notEmitted
deriving DecidableEq, Repr

/-- Which operation emits a bus byte; RAW_CMD, RAW_DATA and the FLUSH forms are told apart by it alone (R121, the notes
of opcode_table.json). -/
inductive Emitter where
  | flush
  | raw
deriving DecidableEq, Repr

/-- An encoded instruction: a host transaction (format HOST) or an emitted pair `{modebit, byte}` (format BUS). -/
inductive InstrWord where
  | host (t : Transaction)
  | bus (e : Emitter) (w : BitVec 9)
deriving DecidableEq, Repr

/-! ### Fields -/

/-- Panel of a panel-identifier bit (R124). -/
def panelOfBit (b : Bool) : Panel := if b then .right else .left

/-- Panel-identifier bit of a panel (R124). -/
def panelBit : Panel → Bool
  | .left => false
  | .right => true

/-- The 9-bit selector `{dirbit, off}` of a transaction (R100). -/
def selector (d : Dir) (off : Byte) : BitVec 9 :=
  match d with
  | .rd => BitVec.ofBool false ++ off
  | .wr => BitVec.ofBool true ++ off

/-- The 9-bit value `{modebit, byte}` of an emitted byte (R121). -/
def busPair (m : BusMode) (b : Byte) : BitVec 9 :=
  match m with
  | .cmd => BitVec.ofBool false ++ b
  | .data => BitVec.ofBool true ++ b

/-! ### Host transactions -/

/-- An aligned read (R101, R102, R114, R115). -/
def decodeRead (off : Byte) : Instr :=
  match off.toNat with
  | 0x00 => .rdCtrl
  | 0x04 => .rdWindow
  | 0x08 => .rdFlush
  | 0x0C => .rdFbBase
  | 0x10 => .rdBusCmd
  | 0x14 => .rdBusData
  | 0x18 => .rdStatus
  | 0x1C => .rdErrInfo
  | 0x20 => .rdGeom
  | _ => .rdUnmapped off

/-- An aligned write with its operands (R101 to R104, R106 to R109, R113 to R115). -/
def decodeWrite (off : Byte) (data : Word) : Instr :=
  match off.toNat with
  | 0x00 => .wrCtrl (data.getLsbD 0) (data.getLsbD 1)
  | 0x04 => .setWindow (data.extractLsb' 0 8) (data.extractLsb' 8 8) (data.extractLsb' 16 8) (data.extractLsb' 24 8)
  | 0x08 => .flush
  | 0x0C => .wrFbBase data
  | 0x10 => .busCmd (panelOfBit (data.getLsbD 8)) (data.extractLsb' 0 8)
  | 0x14 => .busData (panelOfBit (data.getLsbD 8)) (data.extractLsb' 0 8)
  | 0x18 => .wrStatus
  | 0x1C => .wrErrInfo
  | 0x20 => .wrGeom
  | _ => .wrUnmapped off

/-- Decoding of a host transaction (R102); an access that is not an aligned 32-bit word is rejected (R72, R302). -/
def decodeHost (t : Transaction) : Except Reject Instr :=
  if t.width ≠ 32 then .error .width
  else if alignedOff t.off = false then .error .alignment
  else
    match t.dir with
    | .rd => .ok (decodeRead t.off)
    | .wr => .ok (decodeWrite t.off t.data)

/-! ### Emitted bus bytes, under the default command encodings -/

/-- Decoding of an emitted pair (R121, opcode_table.json rows of format BUS). -/
def decodeBus (e : Emitter) (w : BitVec 9) : Except Reject Instr :=
  let b : Byte := w.extractLsb' 0 8
  match e, w.getLsbD 8 with
  | .raw, false => .ok (.rawCmd b)
  | .raw, true => .ok (.rawData b)
  | .flush, true => .ok (.pageData b)
  | .flush, false =>
    if b = 0x3F then .ok .displayOn
    else if b &&& 0xC0 = 0x40 then .ok (.setColumn (b &&& 0x3F))
    else if b &&& 0xF8 = 0xB8 then .ok (.setPage (b &&& 0x07))
    else .error .notEmitted

/-- Decoding of either format. -/
def decode : InstrWord → Except Reject Instr
  | .host t => decodeHost t
  | .bus e w => decodeBus e w

/-! ### Encoder -/

/-- A 32-bit read transaction. -/
def rdWord (off : Byte) : InstrWord := .host ⟨.rd, off, 32, 0⟩

/-- A 32-bit write transaction. -/
def wrWord (off : Byte) (data : Word) : InstrWord := .host ⟨.wr, off, 32, data⟩

/-- The write data of BUS_CMD and BUS_DATA: `h` in bit 8, `b` in bits [7:0] (R108, R109). -/
def rawOperand (h : Panel) (b : Byte) : Word :=
  (BitVec.ofBool (panelBit h) ++ b).zeroExtend 32

/-- The write data of SET_WINDOW (R104). -/
def windowOperand (xs ys xe ye : Byte) : Word := ye ++ xe ++ ys ++ xs

/-- The write data of WR CTRL (R103). -/
def ctrlOperand (dither neg : Bool) : Word :=
  (BitVec.ofBool neg ++ BitVec.ofBool dither).zeroExtend 32

/-- The word of an instruction, from the same tables; bits the rules ignore are 0. -/
def encode : Instr → InstrWord
  | .rdCtrl => rdWord 0x00
  | .wrCtrl dither neg => wrWord 0x00 (ctrlOperand dither neg)
  | .rdWindow => rdWord 0x04
  | .setWindow xs ys xe ye => wrWord 0x04 (windowOperand xs ys xe ye)
  | .rdFlush => rdWord 0x08
  | .flush => wrWord 0x08 0
  | .rdFbBase => rdWord 0x0C
  | .wrFbBase addr => wrWord 0x0C addr
  | .rdBusCmd => rdWord 0x10
  | .busCmd h b => wrWord 0x10 (rawOperand h b)
  | .rdBusData => rdWord 0x14
  | .busData h b => wrWord 0x14 (rawOperand h b)
  | .rdStatus => rdWord 0x18
  | .wrStatus => wrWord 0x18 0
  | .rdErrInfo => rdWord 0x1C
  | .wrErrInfo => wrWord 0x1C 0
  | .rdGeom => rdWord 0x20
  | .wrGeom => wrWord 0x20 0
  | .rdUnmapped off => rdWord off
  | .wrUnmapped off => wrWord off 0
  | .displayOn => .bus .flush (busPair .cmd 0x3F)
  | .setColumn c => .bus .flush (busPair .cmd (0x40 ||| c))
  | .setPage p => .bus .flush (busPair .cmd (0xB8 ||| p))
  | .pageData b => .bus .flush (busPair .data b)
  | .rawCmd b => .bus .raw (busPair .cmd b)
  | .rawData b => .bus .raw (busPair .data b)

/-- The 9-bit value of an encoded instruction that spec/opcode_table.json matches its rows against. -/
def tableValue : InstrWord → BitVec 9
  | .host t => selector t.dir t.off
  | .bus _ w => w

/-- The `match` and `mask` of an instruction's row in spec/opcode_table.json. -/
def tableRow : Instr → BitVec 9 × BitVec 9
  | .rdCtrl => (0x000, 0x1FF)
  | .wrCtrl _ _ => (0x100, 0x1FF)
  | .rdWindow => (0x004, 0x1FF)
  | .setWindow _ _ _ _ => (0x104, 0x1FF)
  | .rdFlush => (0x008, 0x1FF)
  | .flush => (0x108, 0x1FF)
  | .rdFbBase => (0x00C, 0x1FF)
  | .wrFbBase _ => (0x10C, 0x1FF)
  | .rdBusCmd => (0x010, 0x1FF)
  | .busCmd _ _ => (0x110, 0x1FF)
  | .rdBusData => (0x014, 0x1FF)
  | .busData _ _ => (0x114, 0x1FF)
  | .rdStatus => (0x018, 0x1FF)
  | .wrStatus => (0x118, 0x1FF)
  | .rdErrInfo => (0x01C, 0x1FF)
  | .wrErrInfo => (0x11C, 0x1FF)
  | .rdGeom => (0x020, 0x1FF)
  | .wrGeom => (0x120, 0x1FF)
  | .rdUnmapped _ => (0x000, 0x100)
  | .wrUnmapped _ => (0x100, 0x100)
  | .displayOn => (0x03F, 0x1FF)
  | .setColumn _ => (0x040, 0x1C0)
  | .setPage _ => (0x0B8, 0x1F8)
  | .pageData _ => (0x100, 0x100)
  | .rawCmd _ => (0x000, 0x100)
  | .rawData _ => (0x100, 0x100)

/-! ### Bare table words -/

/-- Whether a selector value matches a BUS row with more fixed bits than any HOST row it could match at that value:
DISPLAY_ON, SET_COLUMN or SET_PAGE (DESIGN CHOICE, log 16). -/
def matchesBusRow (w : BitVec 9) : Bool :=
  w == 0x03F || w &&& 0x1C0 == 0x040 || w &&& 0x1F8 == 0x0B8

/-- The host transaction a selector value and write data stand for. -/
def transactionOf (w : BitVec 9) (data : Word) : Transaction :=
  ⟨if w.getLsbD 8 then .wr else .rd, w.extractLsb' 0 8, 32, data⟩

/-- How a bare selector value is read when no format comes with it (DESIGN CHOICE, log 16): the BUS rows with the most
fixed bits first, then the HOST rows at aligned offsets, then the BUS rows of any byte. -/
def readSelector (w : BitVec 9) : InstrWord :=
  if matchesBusRow w then .bus .flush w
  else if alignedOff (w.extractLsb' 0 8) then .host (transactionOf w 0)
  else if w.getLsbD 8 then .bus .flush w
  else .bus .raw w

/-- The encoded instruction of a table word: the 9-bit value in bits [8:0] of the first 16 bits; in a word longer than 16
bits, always a HOST transaction with its write data in bits [47:16] (log 16). -/
def readTableWord (nbits w : Nat) : Option InstrWord :=
  let v := w % 2 ^ nbits
  if v / 512 % 128 ≠ 0 ∨ v / 2 ^ 48 ≠ 0 then none
  else if nbits ≤ 16 then some (readSelector (BitVec.ofNat 9 v))
  else some (.host (transactionOf (BitVec.ofNat 9 v) (BitVec.ofNat 32 (v / 65536))))

/-- The instruction the decoder reads from a word numbered as spec/opcode_table.json numbers it. -/
def decodeTableWord (nbits w : Nat) : Option Instr :=
  match readTableWord nbits w with
  | none => none
  | some iw =>
    match decode iw with
    | .ok i => some i
    | .error _ => none

/-! ### Host program forms (no hardware effect, D38) -/

/-- The pseudo-operations of R118. -/
inductive Pseudo where
  | setwin (xs ys xe ye : Byte)
  | flush
  | cmd (h : Panel) (b : Byte)
  | data (h : Panel) (b : Byte)
  | mode (dither neg : Bool)
  | fbbase (a : Word)
  | status
deriving DecidableEq, Repr

/-- The transaction a pseudo-operation stands for (R118). -/
def Pseudo.expand : Pseudo → Transaction
  | .setwin xs ys xe ye => ⟨.wr, 0x04, 32, windowOperand xs ys xe ye⟩
  | .flush => ⟨.wr, 0x08, 32, 0⟩
  | .cmd h b => ⟨.wr, 0x10, 32, rawOperand h b⟩
  | .data h b => ⟨.wr, 0x14, 32, rawOperand h b⟩
  | .mode dither neg => ⟨.wr, 0x00, 32, ctrlOperand dither neg⟩
  | .fbbase a => ⟨.wr, 0x0C, 32, a⟩
  | .status => ⟨.rd, 0x18, 32, 0⟩

/-- One hexadecimal digit, upper case. -/
def hexDigit (n : Nat) : Char :=
  if n < 10 then Char.ofNat (48 + n) else Char.ofNat (55 + n)

/-- `k` hexadecimal digits of a number, most significant first. -/
def hexDigits : Nat → Nat → List Char
  | 0, _ => []
  | k + 1, n => hexDigits k (n / 16) ++ [hexDigit (n % 16)]

/-- The listing form of a transaction: `W <off> <data>` or `R <off>` (R117). -/
def Transaction.listing (t : Transaction) : List Char :=
  match t.dir with
  | .wr => ['W', ' '] ++ hexDigits 2 t.off.toNat ++ [' '] ++ hexDigits 8 t.data.toNat
  | .rd => ['R', ' '] ++ hexDigits 2 t.off.toNat

end Sys2Proof
end

