-- ==== Sys2Proof/Machine/State.lean ====
section
/-! DEFINITION. The state of the block and of the agents around it (R30 to R56), the reasons a step stops, and the state
after power-on reset (R330, R331). Plain data throughout. -/

namespace Sys2Proof.Machine

open Sys2Proof

/-- A logical line level (R50). -/
inductive Level where
  | asserted
  | deasserted
deriving DecidableEq, Repr

/-- The level of the read/write line (R50). The block only ever drives WRITE (R214, R221). -/
inductive RwLevel where
  | write
  | read
deriving DecidableEq, Repr

/-- The lower bound a WAIT event records: clock cycles for the setup wait (R226), nanoseconds for the latch holds (R224). -/
inductive Delay where
  | cycles (n : Nat)
  | ns (t : Nat)
deriving DecidableEq, Repr

/-- A bus event (R210). -/
inductive BusEvent where
  | cs (i : Panel) (l : Level)
  | mode (m : BusMode)
  | data (b : Byte)
  | e (l : Level)
  | rw (l : RwLevel)
  | wait (t : Delay)
  | fault (c : Byte)
deriving DecidableEq, Repr

/-- The logical levels of the 13 bus lines (R50, R213). -/
structure Lines where
  d    : Byte
  e    : Level
  mode : BusMode
  rw   : RwLevel
  cs0  : Level
  cs1  : Level
deriving DecidableEq, Repr

/-- The window register (R35). -/
structure Window where
  xs     : Byte
  ysPage : Byte
  xe     : Byte
  yePage : Byte
deriving DecidableEq, Repr

/-- ERR_INFO by its fields (R41). -/
structure ErrInfo where
  offset : Byte
  count  : Byte
  page   : BitVec 5
  panel  : Panel
deriving DecidableEq, Repr

/-- The result codes of R291; the reserved codes 5 to 7 are never produced. -/
inductive ResultCode where
  | ok
  | invalidWindow
  | busWrite
  | noWindow
  | config
deriving DecidableEq, Repr

/-- The sequencer positions of R52. RAW carries the operand byte of its transaction besides R52's panel and mode (the
model's own, log 14). -/
inductive Seq where
  | idle
  | convert (y x : Nat)
  | dither (y x : Nat)
  | emit (p : Nat) (h : Panel) (k : Nat)
  | rowEnd (p : Nat)
  | raw (h : Panel) (m : BusMode) (b : Byte)
deriving DecidableEq, Repr

/-- What the host and the platform do next (R7, R9). `access`: a transaction that finds the block idle. `overlap`: one
that arrives while an operation is in progress (R301, log 9). `reset l`: reset asserted, with the LINES_OK it finds
(R330, R333; log 24). `resetDuring t n l`: the same while `t` is in progress, after its first `n` bus events (R332, log 10).
`store`, `fence`: the host's framebuffer stores and what orders them (R83, R89, log 7). -/
inductive HostEvent where
  | access (t : Transaction)
  | overlap (t : Transaction)
  | reset (linesOk : Bool)
  | resetDuring (t : Transaction) (n : Nat) (linesOk : Bool)
  | store (a : Word) (b : Byte)
  | fence
deriving DecidableEq, Repr

/-- The source memory's listed bytes: addresses strictly rising and below 2^32 (`Memory.wf` in Ops). -/
abbrev Memory := List Host.Cell

/-- The whole state. The comment of each field names its rule; the fields after the blank line are the model's own. -/
structure State where
  /-- GAMMA (R45). -/
  gamma      : Vector Byte 256
  /-- CTRL.DITHER (R32). -/
  dither     : Bool
  /-- CTRL.NEG (R33). -/
  neg        : Bool
  /-- WIN (R35). -/
  win        : Window
  /-- WIN_VALID (R36). -/
  winValid   : Bool
  /-- FB_BASE (R37). -/
  fbBase     : Word
  /-- STATUS.LAST_CODE (R38). -/
  lastCode   : ResultCode
  /-- STATUS.CFG_ERR (R39). -/
  cfgErr     : Bool
  /-- STATUS.LINE_CODE (R40). -/
  lineCode   : Byte
  /-- ERR_INFO (R41). -/
  errInfo    : ErrInfo
  /-- FIRST_ERR (R43). -/
  firstErr   : Bool
  /-- The intensity plane I, row first, cells s16 (R47). -/
  plane      : List (List Half)
  /-- LB[0] (R48). -/
  lb0        : List Half
  /-- LB[1] (R48). -/
  lb1        : List Half
  /-- The bit plane BP, row first, true = WHITE (R49). -/
  bp         : List (List Bool)
  /-- The bus line levels (R50). -/
  lines      : Lines
  /-- The bus trace, oldest event first (R51). -/
  trace      : List BusEvent
  /-- The sequencer (R52). -/
  seq        : Seq
  /-- DLY (R54). -/
  dly        : Nat
  /-- The source memory (R74). -/
  mem        : Memory

  /-- The configuration parameters (R11 to R19; log 1). -/
  cfg        : Params
  /-- Host stores no fence has ordered yet, oldest first (R83; log 7). -/
  unordered  : List Host.Cell
  /-- What the host and platform do next, first at the head (log 8). -/
  inputs     : List HostEvent
  /-- The line layer's coming answers, next at the head (R222; log 5). -/
  lineDraws  : List LineDraw
  /-- Index of the next free line-layer answer (log 5). -/
  drawCount  : Nat
  /-- Number of FLUSHes that read the source, index of racing reads (log 7). -/
  flushCount : Nat
  /-- Number of resets and finished FLUSHes, index of the working memories' free contents (log 11). -/
  workCount : Nat
  /-- The value each host read returned, oldest first (R10; log 21). -/
  readLog    : List Word
deriving DecidableEq, Repr

/-- Why the machine stops: no step exists (stuck). -/
inductive Fault where
  /-- A pixel read at a byte address the platform does not admit (R80, R303). Raised by FLUSH. Safe: the run has no
  further state, so nothing can be proved of one. -/
  | sourceReadStuck (addr : Nat)
  /-- A sequencer position outside its operation's schedule (R53), in no reachable state. Raised by a step of an
  operation in progress. Safe: the run has no further state (log 14). -/
  | offSchedule
deriving DecidableEq, Repr

/-- Why the model rejects a run. -/
inductive Refusal where
  /-- An instruction without a meaning in the model, by its mnemonic; raised by no arm of exec. Safe. -/
  | notModelled (mnemonic : String)
  /-- A host transaction that arrives while an operation is in progress (R301). Raised by step. Safe: the run is
  rejected. -/
  | hostOverlap
  /-- A register access that is not an aligned 32-bit word (R72, R302). Raised by step. Safe: the run is rejected. -/
  | unsupportedAccess
  /-- A BUS form executed at a sequencer position that emits no such byte: the spec gives the form no effect outside
  the operation that emits it (R121, R230, R239). Raised by the six BUS meanings. Safe (log 15). -/
  | notEmitting
deriving DecidableEq, Repr

/-- The six events of a reset (R331), in order. -/
def resetEvents : List BusEvent :=
  [.e .deasserted, .cs .left .deasserted, .cs .right .deasserted, .mode .cmd, .rw .write, .data 0x00]

/-- The bus lines after reset (R50, R331). -/
def Lines.atReset : Lines :=
  { d := 0x00, e := .deasserted, mode := .cmd, rw := .write, cs0 := .deasserted, cs1 := .deasserted }

/-- The block right after its first power-on reset (R330, R331): the reset values of the table of R330, the six reset
events in an empty trace, the default parameters (log 2; CFG_ERR computes to 0 under them, R333), GAMMA and the working
memories free (logs 3, 11), nothing listed in the source memory and nothing pending from the agents outside. -/
def State.reset : State :=
  { gamma := Config.gammaTable
    dither := true, neg := false
    win := ⟨0, 0, 0, 0⟩, winValid := false
    fbBase := 0
    lastCode := .ok, cfgErr := false, lineCode := 0
    errInfo := ⟨0, 0, 0, .left⟩, firstErr := false
    plane := Config.freePlane 0, lb0 := Config.freeRow 0 0, lb1 := Config.freeRow 0 1, bp := Config.freeBits 0
    lines := Lines.atReset, trace := resetEvents
    seq := .idle, dly := 0
    mem := []
    cfg := Config.defaults
    unordered := [], inputs := [], lineDraws := []
    drawCount := 0, flushCount := 0, workCount := 1
    readLog := [] }

end Sys2Proof.Machine
end

