-- ==== Sys2Proof/Machine/Operands.lean ====
section
/-! DEFINITION. Every operand form and the arithmetic on it: parameters by function, pixel fields and luma (R120, R141 to
R144), pixel addresses (R75), intensity cells and raster order (R24, R169), window columns by panel (R191 to R193), register
words (R103 to R112), pins (R212). -/

namespace Sys2Proof.Machine

open Sys2Proof

/-! ### Parameters -/

/-- The panel boundary `B = W / 2` (R11). -/
def boundary (p : Params) : Nat := p.width / 2

/-- The number of pages `H / 8` (R24). -/
def pageCount (p : Params) : Nat := p.height / 8

/-- `COL_CMD(c)` (R16); outside its table a free value (log 12). -/
def colCmdByte (p : Params) (c : Nat) : Byte := (p.colCmd[c]?).getD (Config.freeColCmd c)

/-- `PAGE_CMD(pg)` (R16); outside its table a free value (log 12). -/
def pageCmdByte (p : Params) (pg : Nat) : Byte := (p.pageCmd[pg]?).getD (Config.freePageCmd pg)

/-- The clock cycles of a wait: `ceil(t * CLK_HZ / 10^9)` for a hold (R225), the count itself for the setup wait (R226). -/
def waitCycles (p : Params) : Delay → Nat
  | .cycles n => n
  | .ns t => (t * p.clkHz + 999999999) / 1000000000

/-- The down-counter DLY `ticks` cycles after it was loaded with `n` (R54, R225). -/
def countDown (n ticks : Nat) : Nat := n - ticks

/-- The platform address of the register at a byte offset (R71). DESIGN CHOICE (log 26): a platform address has 32 bits and
the sum wraps modulo 2^32. -/
def regAddr (p : Params) (off : Byte) : Word := p.regBase + off.zeroExtend 32

/-- Byte `k` of a register word: bits `[8k+7:8k]` (R73). -/
def regByte (w : Word) (k : Nat) : Byte := w.extractLsb' (8 * k) 8

/-! ### Pixels -/

/-- The byte address of pixel `(x, y)`, wrapping modulo 2^32 (R75, R79). -/
def pixAddr (p : Params) (base : Word) (x y : Nat) : Word := base + BitVec.ofNat 32 (2 * (y * p.width + x))

/-- Channel expansion of a 5-bit code by bit replication (R143). -/
def exp5 (v : BitVec 5) : Byte := (v.zeroExtend 8 <<< 3) ||| (v.zeroExtend 8 >>> 2)

/-- Channel expansion of a 6-bit code by bit replication (R143). -/
def exp6 (v : BitVec 6) : Byte := (v.zeroExtend 8 <<< 2) ||| (v.zeroExtend 8 >>> 4)

/-- The expanded channels `(R8, G8, B8)` of a source pixel (R120, R141 to R143). -/
def channels (f : PixFmt) (px : Half) : Byte × Byte × Byte :=
  match f with
  | .rgb565 => (exp5 (px.extractLsb' 11 5), exp6 (px.extractLsb' 5 6), exp5 (px.extractLsb' 0 5))
  | .rgb555 => (exp5 (px.extractLsb' 10 5), exp5 (px.extractLsb' 5 5), exp5 (px.extractLsb' 0 5))

/-- The weighted sum `S` of R144. -/
def lumaSum (p : Params) (c : Byte × Byte × Byte) : Nat :=
  p.wr * c.1.toNat + p.wg * c.2.1.toNat + p.wb * c.2.2.toNat

/-- The luma `Y = clamp(S / WDEN, 0, 255)` (R144). -/
def luma (p : Params) (px : Half) : Byte :=
  BitVec.ofNat 8 (min (lumaSum p (channels p.pixFmt px) / p.wden) 255)

/-! ### Intensity cells -/

/-- `clamp(v, 0, 255)` (R22, R167). -/
def clamp255 (v : Int) : Int := min (max v 0) 255

/-- Cell `I[y][x]` as a signed integer (R24, R169). -/
def cellAt (I : List (List Half)) (y x : Nat) : Int := ((I.getD y []).getD x 0).toInt

/-- `I[y][x] <- v`, stored as `s16` (R24, R169). -/
def setCell (I : List (List Half)) (y x : Nat) (v : Int) : List (List Half) :=
  I.set y ((I.getD y []).set x (BitVec.ofInt 16 v))

/-- The pixels of a `w` by `h` plane in raster order, as `(x, y)` (R24). -/
def raster (w h : Nat) : List (Nat × Nat) :=
  (List.range h).flatMap fun y => (List.range w).map fun x => (x, y)

/-- Bit `BP[y][x]` (R24, R49). -/
def bitAt (bp : List (List Bool)) (y x : Nat) : Bool := (bp.getD y []).getD x false

/-! ### Window columns -/

/-- Whether the window touches a panel (R191). -/
def touches (p : Params) (w : Window) : Panel → Bool
  | .left => decide (w.xs.toNat < boundary p)
  | .right => decide (boundary p ≤ w.xe.toNat)

/-- The first display column packed for a panel (R192, R193). -/
def firstColumn (p : Params) (w : Window) : Panel → Nat
  | .left => w.xs.toNat
  | .right => max w.xs.toNat (boundary p)

/-- The last display column packed for a panel (R192, R193). -/
def lastColumn (p : Params) (w : Window) : Panel → Nat
  | .left => min w.xe.toNat (boundary p - 1)
  | .right => w.xe.toNat

/-- The display columns packed for a panel, increasing (R192, R193). -/
def windowColumns (p : Params) (w : Window) (h : Panel) : List Nat :=
  (List.range (lastColumn p w h + 1 - firstColumn p w h)).map (firstColumn p w h + ·)

/-- The panel-local column start of a panel's transfer (R192, R193, R232). -/
def columnStart (p : Params) (w : Window) : Panel → Nat
  | .left => firstColumn p w .left
  | .right => firstColumn p w .right - boundary p

/-- The pages of the window, ascending (R196). -/
def windowPages (w : Window) : List Nat :=
  (List.range (w.yePage.toNat + 1 - w.ysPage.toNat)).map (w.ysPage.toNat + ·)

/-! ### Register words -/

/-- One bit as a bit vector. -/
def bit (b : Bool) : BitVec 1 := BitVec.ofBool b

/-- The word `RD CTRL` returns (R103, R34). -/
def ctrlWord (s : State) : Word := (bit s.neg ++ bit s.dither).zeroExtend 32

/-- The word `RD WINDOW` returns (R105). -/
def windowWord (s : State) : Word := s.win.yePage ++ s.win.xe ++ s.win.ysPage ++ s.win.xs

/-- The code of a result (R291). -/
def ResultCode.code : ResultCode → BitVec 3
  | .ok => 0
  | .invalidWindow => 1
  | .busWrite => 2
  | .noWindow => 3
  | .config => 4

/-- The word `RD STATUS` returns (R110). -/
def statusWord (s : State) : Word :=
  (0 : BitVec 16) ++ s.lineCode ++ (0 : BitVec 2) ++ bit s.cfgErr ++ bit s.winValid ++ bit false ++ s.lastCode.code

/-- The word `RD ERR_INFO` returns (R111). -/
def errInfoWord (s : State) : Word :=
  (0 : BitVec 10) ++ bit (panelBit s.errInfo.panel) ++ s.errInfo.page ++ s.errInfo.count ++ s.errInfo.offset

/-- The word `RD GEOM` returns (R42, R112). -/
def geomWord (s : State) : Word := BitVec.ofNat 16 s.cfg.height ++ BitVec.ofNat 16 s.cfg.width

/-- `FB_BASE` as a write stores it: bit 0 is hardwired to 0 (R37, R107). -/
def fbBaseOf (data : Word) : Word := data.extractLsb' 1 31 ++ bit false

/-! ### Pins -/

/-- The pin levels of the 13 lines (R212), `true` = high. -/
structure Pins where
  d    : Byte
  e    : Bool
  mode : Bool
  rw   : Bool
  cs0  : Bool
  cs1  : Bool
deriving DecidableEq, Repr

/-- The pin of a line whose asserted level is high when `activeHigh`. -/
def levelPin (activeHigh : Bool) : Level → Bool
  | .asserted => activeHigh
  | .deasserted => !activeHigh

/-- The pin levels of the logical line levels under the polarity parameters (R18, R212, R123). -/
def pinsOf (p : Params) (l : Lines) : Pins :=
  { d := l.d
    e := levelPin p.eActiveHigh l.e
    mode := match l.mode with
      | .cmd => p.modeCmdLevel
      | .data => !p.modeCmdLevel
    rw := match l.rw with
      | .write => p.rwWriteLevel
      | .read => !p.rwWriteLevel
    cs0 := levelPin p.csActiveHigh l.cs0
    cs1 := levelPin p.csActiveHigh l.cs1 }

end Sys2Proof.Machine
end

