-- ==== Sys2Proof/Machine/Flags.lean ====
section
/-! DEFINITION. The flag computations: CFG_ERR (R333, R11), the window check (R253, R35), the result of an operation (R258,
R260). -/

namespace Sys2Proof.Machine

open Sys2Proof

/-- The geometry constraints of R11. -/
def geometryOk (p : Params) : Bool :=
  p.width % 2 == 0 && decide (2 ≤ p.width) && decide (p.width ≤ 256) &&
  p.height % 8 == 0 && decide (8 ≤ p.height) && decide (p.height ≤ 256) &&
  decide (boundary p ≤ p.panelCols) && decide (pageCount p ≤ p.panelPages)

/-- The parameter constraints that CFG_ERR does not check (log 22): the tables of R16 have an entry for every address, the
weights sum to WDEN > 0 (R15), T_SU_CYC is at least 1 (R17). -/
def paramsLegal (p : Params) : Bool :=
  p.colCmd.length == p.panelCols && p.pageCmd.length == p.panelPages &&
  p.wr + p.wg + p.wb == p.wden && decide (0 < p.wden) && decide (1 ≤ p.tSuCyc)

/-- `CFG_ERR` as reset computes it (R333). -/
def cfgError (p : Params) : Bool := !(p.linesOk && geometryOk p)

/-- The window SET_WINDOW would store: rows to pages by `/ 8` (R253). -/
def windowOf (xs ys xe ye : Byte) : Window :=
  { xs := xs, ysPage := BitVec.ofNat 8 (ys.toNat / 8), xe := xe, yePage := BitVec.ofNat 8 (ye.toNat / 8) }

/-- The window invariant of R35, as SET_WINDOW checks it (R253). -/
def windowOk (p : Params) (w : Window) : Bool :=
  decide (w.xs.toNat ≤ w.xe.toNat) && decide (w.xe.toNat < p.width) &&
  decide (w.ysPage.toNat ≤ w.yePage.toNat) && decide (w.yePage.toNat < pageCount p)

/-- The result of an operation that may have had line faults (R258, R260). -/
def busResult (firstErr : Bool) : ResultCode := if firstErr then .busWrite else .ok

end Sys2Proof.Machine
end

