-- ==== Sys2Proof/Machine/Ops.lean ====
section
/-! DEFINITION. The named operations over the source memory (R74 to R83, R89), the host's read values (R10), the start of an
operation (R252), the recording of an error (R296: the block's one way of taking an exception, which saves no state and
has no return, R298, R299) and reset (R330 to R334). -/

namespace Sys2Proof.Machine

open Sys2Proof

/-! ### Source memory -/

/-- The canonical form from an address on: addresses strictly rising, at least `lo`, below 2^32. -/
def Memory.wfFrom (lo : Nat) : Memory → Bool
  | [] => true
  | (a, _) :: m => decide (lo ≤ a) && decide (a < 2 ^ 32) && Memory.wfFrom (a + 1) m

/-- The canonical form of a memory. An unlisted address has no listed value (log 6), so no entry can equal it. -/
def Memory.wf (m : Memory) : Bool := Memory.wfFrom 0 m

/-- The listed byte at an address; what an unlisted address reads as is `none` (log 6). -/
def memGet : Memory → Nat → Option Byte
  | [], _ => none
  | (a, b) :: m, k => if a = k then some b else memGet m k

/-- A store to an address, keeping the canonical form. -/
def memSet : Memory → Nat → Byte → Memory
  | [], k, v => [(k, v)]
  | (a, b) :: m, k, v =>
    if k < a then (k, v) :: (a, b) :: m
    else if k = a then (a, v) :: m
    else (a, b) :: memSet m k v

/-- Whether the platform admits a read of a byte address (R80). DESIGN CHOICE (log 25): it depends on the address alone and
is the same at every FLUSH, so a bus error that comes at one FLUSH and not at another is not modelled. -/
def admitted (p : Params) (a : Nat) : Bool :=
  !(p.srcHoles.any fun r => decide (r.1 ≤ a) && decide (a ≤ r.2))

/-- The byte at an address as the memory stands: listed, or the free value of the address (R78; log 6). -/
def startByte (s : State) (a : Nat) : Byte := (memGet s.mem a).getD (Config.unwrittenByte a)

/-- The values of the host's stores to an address that no fence has ordered, oldest first (R83, R89). -/
def racingBytes (s : State) (a : Nat) : List Byte := (s.unordered.filter fun c => c.1 == a).map (·.2)

/-- One byte of a MemRead: the start value, or with racing stores a free choice among it and the stored values (R78, R83;
log 7). -/
def memReadByte (s : State) (a : Nat) : Byte :=
  match racingBytes s a with
  | [] => startByte s a
  | w :: ws =>
    (startByte s a :: w :: ws).getD (Config.raceChoice s.flushCount a % (ws.length + 2)) (startByte s a)

/-- `MemRead(a, 2)`: little-endian (R76, R78). -/
def memRead16 (s : State) (a : Word) : Half := memReadByte s (a + 1).toNat ++ memReadByte s a.toNat

/-- The first byte address, in raster order, at which a FLUSH's pixel reads are not admitted (R80, R81). -/
def stuckAddr (s : State) : Option Nat :=
  (raster s.cfg.width s.cfg.height).findSome? fun q =>
    let a := pixAddr s.cfg s.fbBase q.1 q.2
    if admitted s.cfg a.toNat = false then some a.toNat
    else if admitted s.cfg (a + 1).toNat = false then some (a + 1).toNat
    else none

/-- A host store to the framebuffer, not yet ordered (R83, R89; log 7). -/
def hostStore (a : Word) (b : Byte) (s : State) : State := { s with unordered := s.unordered ++ [(a.toNat, b)] }

/-- The host's fence: every earlier store stands in the memory (R89; log 7). -/
def hostFence (s : State) : State :=
  { s with mem := s.unordered.foldl (fun m c => memSet m c.1 c.2) s.mem, unordered := [] }

/-! ### Host reads and operation start -/

/-- A host read returns a value (R10, R100). -/
def answer (v : Word) (s : State) : State := { s with readLog := s.readLog ++ [v] }

/-- ERR_INFO all zero (R41). -/
def ErrInfo.zero : ErrInfo := ⟨0, 0, 0, .left⟩

/-- Operation start (R252). -/
def startOp (s : State) : State := { s with firstErr := false, lineCode := 0, errInfo := ErrInfo.zero }

/-- The end of an operation that records a result code without doing anything else (R251, R292, R295). -/
def failWith (c : ResultCode) (s : State) : State := { s with lastCode := c }

/-! ### Recording a line fault -/

/-- What a `raise BUS_WRITE` is told of the failing byte (R230, R239). -/
structure ByteCtx where
  panel  : Panel
  page   : Nat
  offset : Nat
  count  : Nat
deriving DecidableEq, Repr

/-- The ERR_INFO fields of a failing byte (R41, R294). -/
def errInfoOf (c : ByteCtx) : ErrInfo :=
  { offset := BitVec.ofNat 8 c.offset, count := BitVec.ofNat 8 c.count, page := BitVec.ofNat 5 c.page, panel := c.panel }

/-- `raise BUS_WRITE(...)`: recorded only for the first fault of the operation (R296). -/
def raiseBusWrite (c : ByteCtx) (code : Byte) (s : State) : State :=
  if s.firstErr then s
  else { s with firstErr := true, lineCode := code, errInfo := errInfoOf c }

/-! ### Reset -/

/-- The working memories hold unspecified values: free ones (R47 to R49 between FLUSHes, R334 after reset; log 11). -/
def releaseWork (s : State) : State :=
  { s with
    plane := Config.freePlane s.workCount
    lb0 := Config.freeRow s.workCount 0, lb1 := Config.freeRow s.workCount 1
    bp := Config.freeBits s.workCount
    workCount := s.workCount + 1 }

/-- The configuration a reset finds: only LINES_OK can differ from one reset to the next (R293, R333). The geometry, the
pixel format, the weights and the other parameters are those the block was built with (R11, R13 to R18, R42; log 24). -/
def foundConfig (linesOk : Bool) (p : Params) : Params := { p with linesOk := linesOk }

/-- Reset with the LINES_OK it finds (R330, R331, R333, R334): every register at its reset value, the lines at theirs,
six events appended, CFG_ERR computed, the working memories free (log 11). GAMMA, the source memory and what the agents
outside do are untouched. -/
def hwReset (linesOk : Bool) (s : State) : State :=
  { releaseWork s with
    dither := true, neg := false
    win := ⟨0, 0, 0, 0⟩, winValid := false
    fbBase := 0
    lastCode := .ok, cfgErr := cfgError (foundConfig linesOk s.cfg), lineCode := 0
    errInfo := ErrInfo.zero, firstErr := false
    lines := Lines.atReset, trace := s.trace ++ resetEvents
    seq := .idle, dly := 0
    cfg := foundConfig linesOk s.cfg }

/-- Reset asserted during a transaction that ran from `before` to `after`, once its first `n` bus events have happened: they
stay in the trace, nothing else of the transaction does, and no read value is returned (R332; log 10). -/
def resetCut (linesOk : Bool) (n : Nat) (before after : State) : State :=
  hwReset linesOk
    { after with
      trace := before.trace ++ (after.trace.drop before.trace.length).take n
      readLog := before.readLog }

end Sys2Proof.Machine
end

