-- ==== Sys2Proof/Machine/Convert.lean ====
section
/-! DEFINITION. The gamma/luma converter (R140 to R150) and the convert phase of a FLUSH (R255). -/

namespace Sys2Proof.Machine

open Sys2Proof

/-- CONVERT(px) (R147): `GAMMA[Y]` (R146). -/
def convert (p : Params) (gamma : Vector Byte 256) (px : Half) : Byte :=
  let y := luma p px
  gamma[y.toNat]

/-- The intensity of pixel `(x, y)`, zero-extended into a cell (R146, R255). -/
def convertPixel (s : State) (y x : Nat) : Half :=
  (convert s.cfg s.gamma (memRead16 s (pixAddr s.cfg s.fbBase x y))).zeroExtend 16

/-- Row `y` of the converted plane (R255). -/
def convertRow (s : State) (y : Nat) : List Half := (List.range s.cfg.width).map (convertPixel s y)

/-- The plane the convert phase leaves (R255). -/
def convertedPlane (s : State) : List (List Half) := (List.range s.cfg.height).map (convertRow s)

/-- A plane of the geometry's size, which the convert phase overwrites (R47: recreated per flush). -/
def blankPlane (p : Params) : List (List Half) := List.replicate p.height (List.replicate p.width 0)

/-- A FLUSH leaves IDLE for CONVERT(0, 0) (R53), with the plane recreated (R47). -/
def enterFlush (s : State) : State := { s with seq := .convert 0 0, plane := blankPlane s.cfg }

/-- The position CONVERT(y, x) of pixel `q = (x, y)` (R52, R255): its cell is written. -/
def convertCell (s : State) (q : Nat × Nat) : State :=
  { s with
    seq := .convert q.2 q.1
    plane := s.plane.set q.2 ((s.plane.getD q.2 []).set q.1 (convertPixel s q.2 q.1)) }

/-- CONVERT_PHASE (R255): the positions CONVERT(y, x) of every pixel in raster order (R53); every cell of I is written,
every pixel read once (R81). `convertPhase_spec` says that I is then `convertedPlane`. -/
def convertPhase (s : State) : State :=
  let t := (raster s.cfg.width s.cfg.height).foldl convertCell (enterFlush s)
  { t with flushCount := t.flushCount + 1 }

end Sys2Proof.Machine
end

