-- ==== Sys2Proof/Machine/Dither.lean ====
section
/-! DEFINITION. The error-diffusion ditherer (R160 to R173), its line-buffer realization (R174, R175), the fixed threshold
(R176) and the quantize phase of a FLUSH (R256, R178). -/

namespace Sys2Proof.Machine

open Sys2Proof

/-- The quantized value: the nearer endpoint, a tie to WHITE (R162). -/
def quantize (p : Int) : Int :=
  if |p - Config.black| ≥ |p - Config.white| then Config.white else Config.black

/-- The diffused error `e8 = (p - q) / 8`, truncated toward zero before any multiply (R164, R165). -/
def diffusedError (p : Int) : Int := (p - quantize p).tdiv Config.norm

/-- One kernel cell of a step at `(x, y)` with quantized value `q` and diffused error `e8`: outside the plane it is skipped
(R168), the sentinel overwrites (R166), a weight adds and clamps (R167). -/
def kernelCell (w h x y : Nat) (q e8 : Int) (I : List (List Half)) (k : Nat × Nat × Int) : List (List Half) :=
  if x + k.1 < w ∧ y + k.2.1 < h then
    if k.2.2 = Config.sentinel then setCell I (y + k.2.1) (x + k.1) q
    else setCell I (y + k.2.1) (x + k.1) (clamp255 (cellAt I (y + k.2.1) (x + k.1) + e8 * k.2.2))
  else I

/-- DITHER_STEP(x, y) on a `w` by `h` plane (R170). -/
def ditherStep (w h : Nat) (I : List (List Half)) (q : Nat × Nat) : List (List Half) :=
  let p := cellAt I q.2 q.1
  Config.kernel.foldl (kernelCell w h q.1 q.2 (quantize p) (diffusedError p)) I

/-- DITHER: the whole plane in raster order (R171). -/
def ditherPlane (w h : Nat) (I : List (List Half)) : List (List Half) := (raster w h).foldl (ditherStep w h) I

/-- THRESH_STEP(x, y) (R176). -/
def threshStep (I : List (List Half)) (q : Nat × Nat) : List (List Half) :=
  setCell I q.2 q.1 (quantize (cellAt I q.2 q.1))

/-- The threshold pass over the whole plane in raster order (R176). -/
def threshPlane (w h : Nat) (I : List (List Half)) : List (List Half) := (raster w h).foldl threshStep I

/-- The bits of a row of quantized cells: 1 exactly for WHITE (R178). -/
def rowBits (r : List Half) : List Bool := r.map fun c => decide (c.toInt = Config.white)

/-- The bit plane of a quantized plane (R178). -/
def planeBits (I : List (List Half)) : List (List Bool) := I.map rowBits

/-! ### The line buffers -/

/-- Row `y` dithered in the buffers that hold it and row `y + 1` (R174): the step's own rule on those two rows, or on the
one when `y` is the last row. -/
def ditherLine (w : Nat) (cur : List Half) (next : Option (List Half)) : List Half × Option (List Half) :=
  match next with
  | none => (((List.range w).foldl (fun I x => ditherStep w 1 I (x, 0)) [cur]).getD 0 [], none)
  | some nxt =>
    let I := (List.range w).foldl (fun I x => ditherStep w 2 I (x, 0)) [cur, nxt]
    (I.getD 0 [], some (I.getD 1 []))

/-- The line buffers with what they hold after rows `y`, `y + 1`, ... (R174): `cur` is row `y` with the errors of the rows
above, `rest` the converted rows below it; `free` is the other buffer, into which row `y + 1` is loaded. The answer is the
bit rows and the two buffers, `LB[y % 2]` first. -/
def ditherLines (w : Nat) (cur free : List Half) : List (List Half) → List (List Bool) × List Half × List Half
  | [] => ([rowBits (ditherLine w cur none).1], (ditherLine w cur none).1, free)
  | nxt :: rest =>
    let d := ditherLine w cur (some nxt)
    let r := ditherLines w (d.2.getD []) d.1 rest
    (rowBits d.1 :: r.1, r.2.2, r.2.1)

/-- The line-buffer realization over a converted plane (R174): the bit plane and LB[0], LB[1]; an empty plane leaves the
buffers. -/
def lineBufferRun (w : Nat) (b0 b1 : List Half) : List (List Half) → List (List Bool) × List Half × List Half
  | [] => ([], b0, b1)
  | r :: rest => ditherLines w r b1 rest

/-! ### The quantize phase -/

/-- The quantized plane of the mode (R177, R256). -/
def quantizedPlane (dith : Bool) (w h : Nat) (I : List (List Half)) : List (List Half) :=
  if dith then ditherPlane w h I else threshPlane w h I

/-- The line buffers after the phase: what the realization leaves in them when dithering, untouched otherwise (R174;
log 13). -/
def quantizedLines (dith : Bool) (s : State) : List Half × List Half :=
  if dith then (lineBufferRun s.cfg.width s.lb0 s.lb1 s.plane).2 else (s.lb0, s.lb1)

/-- The position DITHER(y, x) of pixel `q = (x, y)` (R52): DITHER_STEP or THRESH_STEP (R170, R176). -/
def quantizeCell (dith : Bool) (s : State) (q : Nat × Nat) : State :=
  { s with
    seq := .dither q.2 q.1
    plane := if dith then ditherStep s.cfg.width s.cfg.height s.plane q else threshStep s.plane q }

/-- QUANTIZE_PHASE(dith) (R256): the positions DITHER(y, x) of every pixel in raster order (R53) quantize I in place, then
BP is written (R178). `quantizePhase_spec` says that I is then `quantizedPlane`. -/
def quantizePhase (dith : Bool) (s : State) : State :=
  let t := (raster s.cfg.width s.cfg.height).foldl (quantizeCell dith) s
  { t with
    bp := planeBits t.plane
    lb0 := (quantizedLines dith s).1, lb1 := (quantizedLines dith s).2 }

end Sys2Proof.Machine
end

