-- ==== Sys2Proof/Machine/Bus.lean ====
section
/-! DEFINITION. The bus driver: lines and trace (R210, R211), chip-select arbiter (R215 to R217), byte serializer with its
line-layer draw (R220 to R223), timing (R224 to R226), transfers (R230, R239), and the meanings of the six BUS rows (R233 to
R236, R239). -/

namespace Sys2Proof.Machine

open Sys2Proof

/-! ### Lines -/

/-- The line levels after an event (R211); WAIT and FAULT change no line. -/
def applyEvent (l : Lines) : BusEvent → Lines
  | .cs .left v => { l with cs0 := v }
  | .cs .right v => { l with cs1 := v }
  | .mode m => { l with mode := m }
  | .data b => { l with d := b }
  | .e v => { l with e := v }
  | .rw v => { l with rw := v }
  | .wait _ => l
  | .fault _ => l

/-- DLY after an event: a wait loads the counter and counts it out (R225); any other event leaves it. -/
def dlyAfter (p : Params) (dly : Nat) : BusEvent → Nat
  | .wait t => countDown (waitCycles p t) (waitCycles p t)
  | _ => dly

/-- `line(NAME) <- lvl`, `wait(>= t)` or a FAULT record: the line takes its level and the event is appended, whether or not
the level changed (R211, R224). -/
def drive (e : BusEvent) (s : State) : State :=
  { s with lines := applyEvent s.lines e, trace := s.trace ++ [e], dly := dlyAfter s.cfg s.dly e }

/-- Several events in order. -/
def driveAll (es : List BusEvent) (s : State) : State := es.foldl (fun s e => drive e s) s

/-- The other panel. -/
def otherPanel : Panel → Panel
  | .left => .right
  | .right => .left

/-- CHIP_SELECT(h): the other line is deasserted first (R216). -/
def chipSelect (h : Panel) (s : State) : State :=
  drive (.cs h .asserted) (drive (.cs (otherPanel h) .deasserted) s)

/-- DESELECT_ALL (R217). -/
def deselectAll (s : State) : State := drive (.cs .right .deasserted) (drive (.cs .left .deasserted) s)

/-- SET_MODE(m) (R218). -/
def setMode (m : BusMode) (s : State) : State := drive (.mode m) s

/-! ### Byte serializer -/

/-- The six events of an emit (R220). -/
def emitEvents (p : Params) (b : Byte) : List BusEvent :=
  [.data b, .wait (.cycles p.tSuCyc), .e .asserted, .wait (.ns Config.tEhNs), .e .deasserted, .wait (.ns Config.tElNs)]

/-- The recovery after a line fault, with the fault's record (R222, R223). -/
def recoveryEvents (c : Byte) : List BusEvent := [.e .deasserted, .wait (.ns Config.tElNs), .fault c]

/-- The failure code of a draw (R222): 1 to 255. -/
def failCode : LineDraw → Option Byte
  | .ok => none
  | .fail c _ => some (BitVec.ofNat 8 (c.val + 1))

/-- The events an emit leaves in the trace under a draw (R222): all six, or the shown ones and the recovery. -/
def byteEvents (p : Params) (b : Byte) : LineDraw → List BusEvent
  | .ok => emitEvents p b
  | .fail c n => (emitEvents p b).take n.val ++ recoveryEvents (BitVec.ofNat 8 (c.val + 1))

/-- The line layer's answer for the next byte: the environment's, else the free value (R222; log 5). -/
def nextDraw (s : State) : LineDraw :=
  match s.lineDraws with
  | d :: _ => d
  | [] => Config.lineDraw s.drawCount

/-- The answer is used up. -/
def takeDraw (s : State) : State :=
  match s.lineDraws with
  | _ :: ds => { s with lineDraws := ds }
  | [] => { s with drawCount := s.drawCount + 1 }

/-- `emit(b)`: the byte's events under the next draw (R220, R222). -/
def emit (b : Byte) (s : State) : State := driveAll (byteEvents s.cfg b (nextDraw s)) (takeDraw s)

/-- An emit with the `raise` of its caller on a line fault (R230, R239). -/
def emitByte (c : ByteCtx) (b : Byte) (s : State) : State :=
  match failCode (nextDraw s) with
  | none => emit b s
  | some code => raiseBusWrite c code (emit b s)

/-! ### Transfers -/

/-- One panel-targeted record of the packer (R195). -/
structure PageRecord where
  panel    : Panel
  colStart : Nat
  page     : Nat
  bytes    : List Byte
deriving DecidableEq, Repr

/-- The three command bytes of a transfer (R230, R232). -/
def commandBytes (p : Params) (r : PageRecord) : List Byte :=
  [p.cmdDisplayOn, colCmdByte p r.colStart, pageCmdByte p r.page]

/-- What a fault at offset `k` of a transfer of `n` data bytes records (R230). -/
def transferCtx (h : Panel) (page n k : Nat) : ByteCtx := ⟨h, page, k, 3 + n⟩

/-- Bytes `k`, `k + 1`, ... of a transfer (R230); `false` when a line fault aborted the rest (R237). -/
def sendBytes (h : Panel) (page n : Nat) : Nat → List Byte → State → Bool × State
  | _, [], s => (true, s)
  | k, b :: bs, s =>
    let s1 : State := { s with seq := .emit page h k }
    let s2 := emitByte (transferCtx h page n k) b s1
    match failCode (nextDraw s1) with
    | none => sendBytes h page n (k + 1) bs s2
    | some _ => (false, s2)

/-- The data phase of a transfer (R230). -/
def sendData (r : PageRecord) (s : State) : Bool × State :=
  sendBytes r.panel r.page r.bytes.length 3 r.bytes (setMode .data s)

/-- The command phase of a transfer (R230). -/
def sendCommands (r : PageRecord) (s : State) : Bool × State :=
  sendBytes r.panel r.page r.bytes.length 0 (commandBytes s.cfg r) (setMode .cmd (chipSelect r.panel s))

/-- TRANSFER (R230): a fault in the command phase leaves the data phase out. -/
def transfer (r : PageRecord) (s : State) : Bool × State :=
  match sendCommands r s with
  | (true, s1) => sendData r s1
  | (false, s1) => (false, s1)

/-- What a fault of a raw transfer records (R239, R260). -/
def rawCtx (h : Panel) : ByteCtx := ⟨h, 0, 0, 1⟩

/-- RAW(h, m, b) (R239). -/
def rawTransfer (h : Panel) (m : BusMode) (b : Byte) (s : State) : State :=
  let s1 := setMode m (chipSelect h { s with seq := .raw h m b })
  { deselectAll (emitByte (rawCtx h) b s1) with seq := .idle }

/-! ### The BUS rows -/

/-- A byte of a FLUSH transfer at its sequencer position (R230): panel, page and offset are the position's, the data count
is that of the window's columns (R197). Elsewhere the block emits no such byte (log 15). -/
def flushByte (b : Byte) (s : State) : Host.Outcome State Fault Refusal :=
  match s.seq with
  | .emit p h k => .next (emitByte (transferCtx h p (windowColumns s.cfg s.win h).length k) b s)
  | _ => .refused .notEmitting

/-- The byte of a raw transfer at its sequencer position (R239). Elsewhere the block emits no such byte (log 15). -/
def rawByte (m : BusMode) (b : Byte) (s : State) : Host.Outcome State Fault Refusal :=
  match s.seq with
  | .raw h m' _ => if m = m' then .next (emitByte (rawCtx h) b s) else .refused .notEmitting
  | _ => .refused .notEmitting

/-- DISPLAY_ON (R233). -/
def execDisplayOn (s : State) : Host.Outcome State Fault Refusal := flushByte s.cfg.cmdDisplayOn s

/-- SET_COLUMN c (R234). -/
def execSetColumn (c : Byte) (s : State) : Host.Outcome State Fault Refusal := flushByte (colCmdByte s.cfg c.toNat) s

/-- SET_PAGE p (R235). -/
def execSetPage (p : Byte) (s : State) : Host.Outcome State Fault Refusal := flushByte (pageCmdByte s.cfg p.toNat) s

/-- PAGE_DATA b (R236). -/
def execPageData (b : Byte) (s : State) : Host.Outcome State Fault Refusal := flushByte b s

/-- RAW_CMD b (R239, R260). -/
def execRawCmd (b : Byte) (s : State) : Host.Outcome State Fault Refusal := rawByte .cmd b s

/-- RAW_DATA b (R239, R261). -/
def execRawData (b : Byte) (s : State) : Host.Outcome State Fault Refusal := rawByte .data b s

end Sys2Proof.Machine
end

