-- ==== Sys2Proof/Machine/Pack.lean ====
section
/-! DEFINITION. The page packer (R190 to R198) and the emit phase of a FLUSH (R257, R238). -/

namespace Sys2Proof.Machine

open Sys2Proof

/-- PACK_BYTE(x, p): bit `i` is `BP[8p + i][x] XOR NEG` (R194, R122). -/
def packByte (bp : List (List Bool)) (neg : Bool) (x p : Nat) : Byte :=
  BitVec.ofBoolListLE ((List.range 8).map fun i => (bitAt bp (8 * p + i) x) ^^ neg)

/-- The packed bytes of a page for a panel (R192, R193, R195). -/
def panelBytes (s : State) (h : Panel) (p : Nat) : List Byte :=
  (windowColumns s.cfg s.win h).map fun x => packByte s.bp s.neg x p

/-- The record of a page for a panel (R195). -/
def panelRecord (s : State) (h : Panel) (p : Nat) : PageRecord :=
  { panel := h, colStart := columnStart s.cfg s.win h, page := p, bytes := panelBytes s h p }

/-- PACK_ROW(p): the records of the panels the window touches, left first (R195). -/
def packRow (s : State) (p : Nat) : List PageRecord :=
  ([Panel.left, Panel.right].filter fun h => touches s.cfg s.win h).map fun h => panelRecord s h p

/-- ROWEND(p) (R238). -/
def rowEnd (p : Nat) (s : State) : State := deselectAll { s with seq := .rowEnd p }

/-- A page of the emit phase: its transfers, whether they fail or not, then ROWEND (R237, R238, R257). -/
def emitPage (s : State) (p : Nat) : State :=
  rowEnd p ((packRow s p).foldl (fun s r => (transfer r s).2) s)

/-- EMIT_PHASE (R257): the window's pages in ascending order (R196). -/
def emitPhase (s : State) : State := (windowPages s.win).foldl emitPage s

end Sys2Proof.Machine
end

