-- ==== Sys2Proof/Machine/HostOps.lean ====
section
/-! DEFINITION. The four operations: SET_WINDOW (R253), FLUSH (R254 to R258), BUS_CMD (R260), BUS_DATA (R261). -/

namespace Sys2Proof.Machine

open Sys2Proof

/-- The end of a bus operation: its result code from FIRST_ERR, the sequencer back in IDLE (R254, R258, R260). -/
def finishOp (s : State) : State := { s with lastCode := busResult s.firstErr, seq := .idle }

/-- SET_WINDOW past the configuration gate (R253). -/
def storeWindow (w : Window) (s : State) : State :=
  if windowOk s.cfg w then { s with win := w, winValid := true, lastCode := .ok }
  else { s with winValid := false, lastCode := .invalidWindow }

/-- SET_WINDOW (R251, R252, R253, R292). -/
def execSetWindow (xs ys xe ye : Byte) (s : State) : Host.Outcome State Fault Refusal :=
  let s0 := startOp s
  .next (if s0.cfgErr then failWith .config s0 else storeWindow (windowOf xs ys xe ye) s0)

/-- The end of a FLUSH: its result (R258); the working memories are unspecified from here on (R47 to R49; log 11). -/
def finishFlush (s : State) : State := releaseWork (finishOp s)

/-- The three phases of a FLUSH and its result (R254). -/
def flushRun (s : State) : State := finishFlush (emitPhase (quantizePhase s.dither (convertPhase s)))

/-- FLUSH (R254): CONFIG before NO_WINDOW (R297), no other effect with either (R251, R295); stuck at a pixel read the
platform does not admit (R80, R303). -/
def execFlush (s : State) : Host.Outcome State Fault Refusal :=
  let s0 := startOp s
  if s0.cfgErr then .next (failWith .config s0)
  else if s0.winValid = false then .next (failWith .noWindow s0)
  else
    match stuckAddr s0 with
    | some a => .fault (.sourceReadStuck a)
    | none => .next (flushRun s0)

/-- BUS_CMD (R251, R252, R260). -/
def execBusCmd (h : Panel) (b : Byte) (s : State) : Host.Outcome State Fault Refusal :=
  let s0 := startOp s
  .next (if s0.cfgErr then failWith .config s0 else finishOp (rawTransfer h .cmd b s0))

/-- BUS_DATA (R251, R252, R261). -/
def execBusData (h : Panel) (b : Byte) (s : State) : Host.Outcome State Fault Refusal :=
  let s0 := startOp s
  .next (if s0.cfgErr then failWith .config s0 else finishOp (rawTransfer h .data b s0))

end Sys2Proof.Machine
end

