-- ==== Sys2Proof/Machine/Registers.lean ====
section
/-! DEFINITION. Register writes and reads (R262 to R269), accesses to read-only, write-only and unmapped offsets (R114,
R115). None starts an operation or changes the status (R250). -/

namespace Sys2Proof.Machine

open Sys2Proof

/-- A transaction that changes nothing (R114, R115). -/
def ignoreWrite (s : State) : State := s

/-- RD_CTRL (R263). -/
def execRdCtrl (s : State) : Host.Outcome State Fault Refusal := .next (answer (ctrlWord s) s)

/-- WR_CTRL (R103, R262). -/
def execWrCtrl (dither neg : Bool) (s : State) : Host.Outcome State Fault Refusal :=
  .next { s with dither := dither, neg := neg }

/-- RD_WINDOW (R105, R266). -/
def execRdWindow (s : State) : Host.Outcome State Fault Refusal := .next (answer (windowWord s) s)

/-- RD_FLUSH (R115): 0, and no FLUSH starts. -/
def execRdFlush (s : State) : Host.Outcome State Fault Refusal := .next (answer 0 s)

/-- RD_FB_BASE (R265). -/
def execRdFbBase (s : State) : Host.Outcome State Fault Refusal := .next (answer s.fbBase s)

/-- WR_FB_BASE (R107, R264). -/
def execWrFbBase (addr : Word) (s : State) : Host.Outcome State Fault Refusal := .next { s with fbBase := fbBaseOf addr }

/-- RD_BUS_CMD (R115): 0, and no transfer starts. -/
def execRdBusCmd (s : State) : Host.Outcome State Fault Refusal := .next (answer 0 s)

/-- RD_BUS_DATA (R115): 0, and no transfer starts. -/
def execRdBusData (s : State) : Host.Outcome State Fault Refusal := .next (answer 0 s)

/-- RD_STATUS (R110, R267). -/
def execRdStatus (s : State) : Host.Outcome State Fault Refusal := .next (answer (statusWord s) s)

/-- WR_STATUS (R115). -/
def execWrStatus (s : State) : Host.Outcome State Fault Refusal := .next (ignoreWrite s)

/-- RD_ERR_INFO (R111, R268). -/
def execRdErrInfo (s : State) : Host.Outcome State Fault Refusal := .next (answer (errInfoWord s) s)

/-- WR_ERR_INFO (R115). -/
def execWrErrInfo (s : State) : Host.Outcome State Fault Refusal := .next (ignoreWrite s)

/-- RD_GEOM (R112, R269). -/
def execRdGeom (s : State) : Host.Outcome State Fault Refusal := .next (answer (geomWord s) s)

/-- WR_GEOM (R115). -/
def execWrGeom (s : State) : Host.Outcome State Fault Refusal := .next (ignoreWrite s)

/-- RD_UNMAPPED (R114): 0. The meaning is that of an offset the register map leaves out; an offset it does not leave out
never decodes to this instruction (R102). -/
def execRdUnmapped (_off : Byte) (s : State) : Host.Outcome State Fault Refusal := .next (answer 0 s)

/-- WR_UNMAPPED (R114). -/
def execWrUnmapped (_off : Byte) (s : State) : Host.Outcome State Fault Refusal := .next (ignoreWrite s)

end Sys2Proof.Machine
end

