-- ==== Sys2Proof/Machine/Dispatch.lean ====
section
/-! DEFINITION. The dispatch of instructions to their meanings (R250), one arm per row of spec/opcode_table.json. -/

namespace Sys2Proof.Machine

open Sys2Proof

def exec (i : Instr) (s : State) : Host.Outcome State Fault Refusal :=
  match i with
  | .rdCtrl => Sys2Proof.Machine.execRdCtrl s
  | .wrCtrl dither neg => Sys2Proof.Machine.execWrCtrl dither neg s
  | .rdWindow => Sys2Proof.Machine.execRdWindow s
  | .setWindow xs ys xe ye => Sys2Proof.Machine.execSetWindow xs ys xe ye s
  | .rdFlush => Sys2Proof.Machine.execRdFlush s
  | .flush => Sys2Proof.Machine.execFlush s
  | .rdFbBase => Sys2Proof.Machine.execRdFbBase s
  | .wrFbBase addr => Sys2Proof.Machine.execWrFbBase addr s
  | .rdBusCmd => Sys2Proof.Machine.execRdBusCmd s
  | .busCmd h b => Sys2Proof.Machine.execBusCmd h b s
  | .rdBusData => Sys2Proof.Machine.execRdBusData s
  | .busData h b => Sys2Proof.Machine.execBusData h b s
  | .rdStatus => Sys2Proof.Machine.execRdStatus s
  | .wrStatus => Sys2Proof.Machine.execWrStatus s
  | .rdErrInfo => Sys2Proof.Machine.execRdErrInfo s
  | .wrErrInfo => Sys2Proof.Machine.execWrErrInfo s
  | .rdGeom => Sys2Proof.Machine.execRdGeom s
  | .wrGeom => Sys2Proof.Machine.execWrGeom s
  | .rdUnmapped off => Sys2Proof.Machine.execRdUnmapped off s
  | .wrUnmapped off => Sys2Proof.Machine.execWrUnmapped off s
  | .displayOn => Sys2Proof.Machine.execDisplayOn s
  | .setColumn c => Sys2Proof.Machine.execSetColumn c s
  | .setPage p => Sys2Proof.Machine.execSetPage p s
  | .pageData b => Sys2Proof.Machine.execPageData b s
  | .rawCmd b => Sys2Proof.Machine.execRawCmd b s
  | .rawData b => Sys2Proof.Machine.execRawData b s

end Sys2Proof.Machine
end

