-- ==== Sys2Proof/Machine/Sequencer.lean ====
section
/-! DEFINITION. What one step does: the next event of the host and platform (R7 to R9, R301, R302, R332), or, at a sequencer
position inside an operation, the work of that position and the move to the next in R53's order (log 14). Also the
placing of an opcode-table word where the next step runs it. -/

namespace Sys2Proof.Machine

open Sys2Proof

/-! ### Positions inside an operation -/

/-- The position after pixel `(x, y)` in raster order, or `done` after the last (R53). -/
def nextPixel (p : Params) (at_ : Nat → Nat → Seq) (done : Seq) (y x : Nat) : Seq :=
  if x + 1 < p.width then at_ y (x + 1)
  else if y + 1 < p.height then at_ (y + 1) 0
  else done

/-- Whether a pixel lies in the plane (R24). -/
def inPlane (p : Params) (y x : Nat) : Bool := decide (y < p.height) && decide (x < p.width)

/-- Whether `(x, y)` is the last pixel in raster order. -/
def lastPixel (p : Params) (y x : Nat) : Bool := y + 1 == p.height && x + 1 == p.width

/-- The byte address at which the read of pixel `(x, y)` is not admitted, if any (R80). -/
def stuckPixel (s : State) (y x : Nat) : Option Nat :=
  let a := pixAddr s.cfg s.fbBase x y
  if admitted s.cfg a.toNat = false then some a.toNat
  else if admitted s.cfg (a + 1).toNat = false then some (a + 1).toNat
  else none

/-- CONVERT(y, x) (R52, R255), then the next position (R53). -/
def convertAt (y x : Nat) (s : State) : State :=
  { convertCell s (x, y) with
    seq := nextPixel s.cfg .convert (.dither 0 0) y x
    flushCount := if lastPixel s.cfg y x then s.flushCount + 1 else s.flushCount }

/-- The transfer of page `p` to panel `h` begins: CHIP_SELECT, SET_MODE(CMD), first byte (R230). -/
def enterTransfer (p : Nat) (h : Panel) (s : State) : State :=
  { setMode .cmd (chipSelect h s) with seq := .emit p h 0 }

/-- Page `p` begins with the first panel the window touches (R257). -/
def enterPage (p : Nat) (s : State) : State :=
  if touches s.cfg s.win .left then enterTransfer p .left s
  else if touches s.cfg s.win .right then enterTransfer p .right s
  else { s with seq := .rowEnd p }

/-- The line buffers mirror the rows in work while dithering (R174, R175). -/
def mirrorLines (y : Nat) (s : State) : State :=
  let cur := s.plane.getD y []
  let other := if y % 2 = 0 then s.lb1 else s.lb0
  let next := if y + 1 < s.cfg.height then s.plane.getD (y + 1) [] else other
  if y % 2 = 0 then { s with lb0 := cur, lb1 := next } else { s with lb1 := cur, lb0 := next }

/-- DITHER(y, x): DITHER_STEP or THRESH_STEP (R52, R170, R176); after the last pixel BP is written (R178) and the first page
begins. -/
def ditherAt (y x : Nat) (s : State) : State :=
  let s0 := quantizeCell s.dither s (x, y)
  let s1 := if s.dither then mirrorLines y s0 else s0
  if lastPixel s.cfg y x then enterPage s.win.ysPage.toNat { s1 with bp := planeBits s1.plane }
  else { s1 with seq := nextPixel s.cfg .dither s.seq y x }

/-- The byte the position `EMIT(p, h, k)` emits (R52, R230, R233 to R236). -/
def byteForm (s : State) (p : Nat) (h : Panel) (k : Nat) : Option Instr :=
  match k with
  | 0 => some .displayOn
  | 1 => some (.setColumn (BitVec.ofNat 8 (columnStart s.cfg s.win h)))
  | 2 => some (.setPage (BitVec.ofNat 8 p))
  | j + 3 => ((panelBytes s h p)[j]?).map .pageData

/-- After the transfer of page `p` to panel `h`: the right panel's, if it follows, else ROWEND (R53, R237). -/
def afterTransfer (p : Nat) (h : Panel) (s : State) : State :=
  if h = .left ∧ touches s.cfg s.win .right then enterTransfer p .right s else { s with seq := .rowEnd p }

/-- After byte `k` of a transfer: a line fault or the last byte ends the transfer; the data phase begins at byte 3 (R230,
R237). -/
def afterByte (p : Nat) (h : Panel) (k : Nat) (failed : Bool) (s : State) : State :=
  if failed || k + 1 == 3 + (windowColumns s.cfg s.win h).length then afterTransfer p h s
  else if k == 2 then { setMode .data s with seq := .emit p h 3 }
  else { s with seq := .emit p h (k + 1) }

/-- ROWEND(p): deselect, then the next page or the end of the FLUSH (R53, R238, R258). -/
def rowEndAt (p : Nat) (s : State) : State :=
  if p + 1 ≤ s.win.yePage.toNat then enterPage (p + 1) (deselectAll s) else finishFlush (deselectAll s)

/-- The instruction a raw position emits (R239). -/
def rawForm : BusMode → Byte → Instr
  | .cmd, b => .rawCmd b
  | .data, b => .rawData b

/-- One step of an operation in progress: the work of its sequencer position (R52, R53). IDLE waits (R336). -/
def busyStep (s : State) : Host.Outcome State Fault Refusal :=
  match s.seq with
  | .idle => .next s
  | .convert y x =>
    if inPlane s.cfg y x then
      match stuckPixel s y x with
      | some a => .fault (.sourceReadStuck a)
      | none => .next (convertAt y x s)
    else .fault .offSchedule
  | .dither y x => if inPlane s.cfg y x then .next (ditherAt y x s) else .fault .offSchedule
  | .emit p h k =>
    match byteForm s p h k with
    | none => .fault .offSchedule
    | some i =>
      match exec i s with
      | .next s' => .next (afterByte p h k (failCode (nextDraw s)).isSome s')
      | .fault r => .fault r
      | .refused r => .refused r
  | .rowEnd p => .next (rowEndAt p s)
  | .raw h m b =>
    match exec (rawForm m b) (setMode m (chipSelect h s)) with
    | .next s' => .next (finishOp (deselectAll s'))
    | .fault r => .fault r
    | .refused r => .refused r

/-! ### Events -/

/-- A host transaction that finds the block idle: decoded, then one atomic step (R8, R250); an unsupported access is
refused (R302). -/
def runAccess (t : Transaction) (s : State) : Host.Outcome State Fault Refusal :=
  match decodeHost t with
  | .error _ => .refused .unsupportedAccess
  | .ok i => exec i s

/-- A host transaction cut off by reset after `n` of its bus events; a stuck one is stopped too (R332, R303; log 10). -/
def cutAccess (t : Transaction) (n : Nat) (linesOk : Bool) (s : State) : Host.Outcome State Fault Refusal :=
  match runAccess t s with
  | .next s' => .next (resetCut linesOk n s s')
  | .fault _ => .next (hwReset linesOk s)
  | .refused r => .refused r

/-- The next event happens. Reset, an overlapping transaction and a store of the host come at any time; a transaction and
the host's fence wait for IDLE (R9, R301, R332; logs 7, 8). -/
def nextEvent (s : State) : Host.Outcome State Fault Refusal :=
  match s.inputs with
  | [] => busyStep s
  | .overlap _ :: _ => .refused .hostOverlap
  | .reset l :: rest => .next (hwReset l { s with inputs := rest })
  | .store a b :: rest => .next (hostStore a b { s with inputs := rest })
  | .fence :: rest => if s.seq = .idle then .next (hostFence { s with inputs := rest }) else busyStep s
  | .access t :: rest => if s.seq = .idle then runAccess t { s with inputs := rest } else busyStep s
  | .resetDuring t n l :: rest =>
    if s.seq = .idle then cutAccess t n l { s with inputs := rest } else busyStep s

/-! ### Placing a table word -/

/-- A transaction next in the idle block. -/
def placeAccess (t : Transaction) (s : State) : State := { s with seq := .idle, inputs := .access t :: s.inputs }

/-- The sequencer at the position that emits a BUS form next, with the window, the bit plane and the lines its transfer has
there, and no event before it (log 16). Any other instruction is not placed this way. -/
def placeByte (i : Instr) (s : State) : State :=
  match i with
  | .displayOn =>
    { s with seq := .emit 0 .left 0, lines := { s.lines with mode := .cmd, cs0 := .asserted }, inputs := [] }
  | .setColumn c =>
    { s with
      seq := .emit 0 .left 1, win := { s.win with xs := c, xe := c }
      lines := { s.lines with mode := .cmd, cs0 := .asserted }, inputs := [] }
  | .setPage p =>
    { s with seq := .emit p.toNat .left 2, lines := { s.lines with mode := .cmd, cs0 := .asserted }, inputs := [] }
  | .pageData b =>
    { s with
      seq := .emit 0 .left 3, win := { s.win with xs := 0, xe := 0 }
      bp := (List.range 8).map fun i => [b.getLsbD i ^^ s.neg]
      lines := { s.lines with mode := .data, cs0 := .asserted }, inputs := [] }
  | .rawCmd b => { s with seq := .raw .left .cmd b, inputs := [] }
  | .rawData b => { s with seq := .raw .left .data b, inputs := [] }
  | _ => s

/-- A table word where the next step runs it; a word that is no instruction becomes an access that step refuses. -/
def placeWord (nbits w : Nat) (s : State) : State :=
  match readTableWord nbits w with
  | none => placeAccess ⟨.rd, 0, 8, 0⟩ s
  | some (.host t) => placeAccess t s
  | some (.bus e v) =>
    match decodeBus e v with
    | .ok i => placeByte i s
    | .error _ => placeAccess ⟨.rd, 0, 8, 0⟩ s

end Sys2Proof.Machine
end

