-- ==== Sys2Proof/Safety.lean ====
section
/-! DEFINITION. What counts as a safe run, in the terms the statements use: the chip-select invariant over every event (R215,
R240), the invariant that holds between operations, what the panels' latches see (R220), the fault-free line layer. -/

namespace Sys2Proof.Machine

open Sys2Proof

/-! ### The bus -/

/-- The line levels after a list of events (R211). -/
def linesAfter (l : Lines) (es : List BusEvent) : Lines := es.foldl applyEvent l

/-- Not both chip-selects are asserted (R215). -/
def csExclusive (l : Lines) : Prop := ¬ (l.cs0 = .asserted ∧ l.cs1 = .asserted)

/-- From these lines on, no event of the list leaves both chip-selects asserted. -/
def CsSafe (l : Lines) (es : List BusEvent) : Prop := ∀ n, csExclusive (linesAfter l (es.take n))

/-- What a latch pulse offers the panels: the chip-selects, the mode and the data lines when E is asserted (R220). -/
structure Latched where
  cs0  : Level
  cs1  : Level
  mode : BusMode
  byte : Byte
deriving DecidableEq, Repr

/-- The latch pulses of a list of events, from given lines on (R220). -/
def latched (l : Lines) : List BusEvent → List Latched
  | [] => []
  | .e .asserted :: es => ⟨l.cs0, l.cs1, l.mode, l.d⟩ :: latched (applyEvent l (.e .asserted)) es
  | e :: es => latched (applyEvent l e) es

/-- A byte latched by one panel: its chip-select asserted, the other not. -/
def latchedBy (h : Panel) (m : BusMode) (b : Byte) : Latched :=
  match h with
  | .left => ⟨.asserted, .deasserted, m, b⟩
  | .right => ⟨.deasserted, .asserted, m, b⟩

/-- The line layer reports OK for the next `n` bytes at least. -/
def FaultFree (n : Nat) (s : State) : Prop := ∃ rest, s.lineDraws = List.replicate n .ok ++ rest

/-- The number of bytes a FLUSH of the window emits without faults (R351). -/
def flushBytes (p : Params) (w : Window) : Nat :=
  (windowPages w).length *
    (([Panel.left, Panel.right].filter fun h => touches p w h).map fun h => 3 + (windowColumns p w h).length).sum

/-- The position at which a page begins (R53, R257): the first panel the window touches. -/
def pageEntry (p : Params) (w : Window) (page : Nat) : Seq :=
  if w.xs.toNat < p.width / 2 then .emit page .left 0
  else if p.width / 2 ≤ w.xe.toNat then .emit page .right 0
  else .rowEnd page

/-- The events at the beginning of a page: CHIP_SELECT and SET_MODE(CMD) of its first transfer (R230, R216, R218). -/
def pageEntryEvents (p : Params) (w : Window) : List BusEvent :=
  if w.xs.toNat < p.width / 2 then [.cs .right .deasserted, .cs .left .asserted, .mode .cmd]
  else if p.width / 2 ≤ w.xe.toNat then [.cs .left .deasserted, .cs .right .asserted, .mode .cmd]
  else []

/-! ### Planes -/

/-- A plane of `h` rows of `w` cells (R47). -/
def Sized (w h : Nat) (I : List (List Half)) : Prop := I.length = h ∧ ∀ r ∈ I, r.length = w

/-- Every cell holds an intensity of 0 to 255 (R169). -/
def CellsInRange (w h : Nat) (I : List (List Half)) : Prop :=
  ∀ x y, x < w → y < h → 0 ≤ cellAt I y x ∧ cellAt I y x ≤ 255

/-! ### Source memory -/

/-- The platform admits both bytes of every pixel of the plane (R80, R81). -/
def PlaneAdmitted (s : State) : Prop :=
  ∀ x y, x < s.cfg.width → y < s.cfg.height →
    admitted s.cfg (pixAddr s.cfg s.fbBase x y).toNat = true ∧
    admitted s.cfg (pixAddr s.cfg s.fbBase x y + 1).toNat = true

/-- A byte address of the source pixel plane (R75, R81). -/
def InPixelPlane (s : State) (a : Nat) : Prop :=
  ∃ x y, x < s.cfg.width ∧ y < s.cfg.height ∧
    (a = (pixAddr s.cfg s.fbBase x y).toNat ∨ a = (pixAddr s.cfg s.fbBase x y + 1).toNat)

/-! ### Reset -/

/-- `t` holds what a reset that finds LINES_OK at `linesOk` leaves of `s`, but for the trace (R330, R331, R333): every
register at its reset value, CFG_ERR by the constraints of R11, and GAMMA, the other parameters, the source memory, the
pending stores and the values read before untouched. -/
structure AtReset (linesOk : Bool) (s t : State) : Prop where
  ctrl      : t.dither = true ∧ t.neg = false
  win       : t.win = ⟨0, 0, 0, 0⟩ ∧ t.winValid = false
  fbBase    : t.fbBase = 0
  lastCode  : t.lastCode = .ok
  cfgErr    : t.cfgErr = true ↔ ¬ (linesOk = true ∧ s.cfg.width % 2 = 0 ∧ 2 ≤ s.cfg.width ∧ s.cfg.width ≤ 256 ∧
    s.cfg.height % 8 = 0 ∧ 8 ≤ s.cfg.height ∧ s.cfg.height ≤ 256 ∧ s.cfg.width / 2 ≤ s.cfg.panelCols ∧
    s.cfg.height / 8 ≤ s.cfg.panelPages)
  lineCode  : t.lineCode = 0
  errInfo   : t.errInfo = ⟨0, 0, 0, .left⟩
  firstErr  : t.firstErr = false
  lines     : t.lines = ⟨0x00, .deasserted, .cmd, .write, .deasserted, .deasserted⟩
  seq       : t.seq = .idle
  dly       : t.dly = 0
  gamma     : t.gamma = s.gamma
  cfg       : t.cfg = { s.cfg with linesOk := linesOk }
  memory    : t.mem = s.mem ∧ t.unordered = s.unordered
  readLog   : t.readLog = s.readLog

/-! ### Between operations -/

/-- The constraints of R15 on the weights, which CFG_ERR does not check (log 22). -/
def WeightsOk (p : Params) : Prop := p.wr + p.wg + p.wb = p.wden ∧ 0 < p.wden

/-- What holds whenever no operation is in progress: the sequencer idle with DLY 0 (R52, R54), no panel selected and the
latch line deasserted (R223, R238, R239), RW at WRITE (R214), bit 0 of FB_BASE 0 (R37), a valid window inside the geometry
(R35, R36), an error record only with FIRST_ERR (R40, R41), CFG_ERR as its configuration says (R39), the constraints of R15 to R17 on the parameters, the source memory in
canonical form and every pending store inside the address space. -/
structure Inv (s : State) : Prop where
  idle      : s.seq = .idle
  dly       : s.dly = 0
  latch     : s.lines.e = .deasserted
  rw        : s.lines.rw = .write
  cs0       : s.lines.cs0 = .deasserted
  cs1       : s.lines.cs1 = .deasserted
  fbBase    : s.fbBase.getLsbD 0 = false
  window    : s.winValid = true → windowOk s.cfg s.win = true
  noError   : s.firstErr = false → s.lineCode = 0 ∧ s.errInfo = ErrInfo.zero
  cfgErr    : s.cfgErr = cfgError s.cfg
  params    : paramsLegal s.cfg = true
  memory    : Memory.wf s.mem = true
  stores    : ∀ c ∈ s.unordered, c.1 < 2 ^ 32

end Sys2Proof.Machine
end

