-- ==== Sys2Proof/Certificates/Slice0/Obligations.lean ====
section
/-! DEFINITION. The statements for the provers. Each docstring names the rules of spec/ it formalises. -/

open Sys2Proof Sys2Proof.Machine

/-! ### Encoding -/

/-- R102, R103, R104, R107 to R109, R114, R121: decoding the word of a well-formed instruction gives it back, every operand
at every value the encoding admits. -/
def Obligations.DecodeOfEncodeIsIdentity : Prop :=
  ∀ i : Instr, i.wellFormed = true → decode (encode i) = .ok i

/-- R102, R72: an aligned 32-bit transaction decodes to a well-formed instruction whose opcode-table row it matches: to a
named HOST row below 0x24, and to the unmapped access of its direction from 0x24 on. -/
def Obligations.HostDecodingTotal : Prop :=
  ∀ t : Transaction, t.width = 32 → t.off.toNat % 4 = 0 →
    ∃ i, decodeHost t = .ok i ∧ i.wellFormed = true ∧
      selector t.dir t.off &&& (tableRow i).2 = (tableRow i).1 ∧
      (t.off.toNat < 0x24 → i ≠ .displayOn ∧
        ∀ b, i ≠ .rdUnmapped b ∧ i ≠ .wrUnmapped b ∧ i ≠ .setColumn b ∧ i ≠ .setPage b ∧ i ≠ .pageData b ∧ i ≠ .rawCmd b ∧
          i ≠ .rawData b) ∧
      (0x24 ≤ t.off.toNat → i = (match t.dir with
        | .rd => Instr.rdUnmapped t.off
        | .wr => Instr.wrUnmapped t.off))

/-- R113, R106: the reserved bits of CTRL, BUS_CMD, BUS_DATA, FB_BASE and the data of FLUSH are ignored on write. -/
def Obligations.ReservedWriteBitsIgnored : Prop :=
  (∀ d d' : Word, d.extractLsb' 0 2 = d'.extractLsb' 0 2 → decodeWrite 0x00 d = decodeWrite 0x00 d') ∧
  (∀ d d' : Word, d.extractLsb' 0 9 = d'.extractLsb' 0 9 →
    decodeWrite 0x10 d = decodeWrite 0x10 d' ∧ decodeWrite 0x14 d = decodeWrite 0x14 d') ∧
  (∀ d d' : Word, decodeWrite 0x08 d = decodeWrite 0x08 d') ∧
  (∀ (d d' : Word) (s : State), d.extractLsb' 1 31 = d'.extractLsb' 1 31 →
    exec (.wrFbBase d) s = exec (.wrFbBase d') s)

/-- Words written out, one of each family (95_test_vectors.md H1, H7, H8, H9, H13, H14; R233 to R236): the emitted pairs as
opcode_table.json gives them, and host transactions packed as a table word, with the data in bits 47 to 16 and a bare value
read as the HOST row where a BUS row has it too (DESIGN CHOICE, log 16). -/
def Obligations.SampleWordsDecode : Prop :=
  decodeTableWord 48 0x3F46001E0104 = some (.setWindow 30 0 70 63) ∧
  decodeTableWord 48 0xFFFFFFFE0100 = some (.wrCtrl false true) ∧
  decodeTableWord 48 0x20001001010C = some (.wrFbBase 0x20001001) ∧
  decodeTableWord 16 0x0020 = some .rdGeom ∧
  decodeTableWord 48 0x0000013F0110 = some (.busCmd .right 0x3F) ∧
  decodeTableWord 48 0x000002FF0114 = some (.busData .left 0xFF) ∧
  decodeTableWord 48 0x000000000040 = some (.rdUnmapped 0x40) ∧
  decodeBus .flush 0x03F = .ok .displayOn ∧ decodeBus .flush 0x05E = .ok (.setColumn 30) ∧
  decodeBus .flush 0x0BB = .ok (.setPage 3) ∧ decodeBus .flush 0x1FF = .ok (.pageData 0xFF) ∧
  decodeBus .raw 0x03F = .ok (.rawCmd 0x3F) ∧ decodeBus .raw 0x1A5 = .ok (.rawData 0xA5)

/-! ### A step -/

/-- R8, R250: with the block idle, step takes the first pending transaction off the list and runs exactly the instruction
it decodes to. -/
def Obligations.StepRunsDecodedAccess : Prop :=
  ∀ (s : State) (t : Transaction) (rest : List HostEvent) (i : Instr),
    s.seq = .idle → s.inputs = .access t :: rest → decodeHost t = .ok i →
    step s = exec i { s with inputs := rest }

/-- R230, R52, R53, R239 at the positions inside an operation, with no event pending (that a step can find one is log 14).
EMIT(p, h, k) runs DISPLAY_ON, SET_COLUMN of the transfer's column start, SET_PAGE p or PAGE_DATA of its column, for k = 0, 1,
2 and 3 + j; then a line fault or the last byte leads to the right panel's transfer or to ROWEND(p), and any other byte to the
next one, with the data phase from 3 on. RAW runs its byte between CHIP_SELECT, SET_MODE and DESELECT_ALL and ends.
CONVERT(y, x) writes its cell, DITHER(y, x) runs the step of the mode, each followed by the next pixel in raster order, and
after the last DITHER the first page begins. ROWEND(p) deselects; the next page or the end of the FLUSH follows. -/
def Obligations.StepRunsEmittedByte : Prop :=
  (∀ (s t : State) (p : Nat) (h : Panel) (k first last start : Nat) (i : Instr),
    s.seq = .emit p h k → s.inputs = [] →
    ((h = .left ∧ first = s.win.xs.toNat ∧ last = min s.win.xe.toNat (s.cfg.width / 2 - 1) ∧ start = first) ∨
      (h = .right ∧ first = max s.win.xs.toNat (s.cfg.width / 2) ∧ last = s.win.xe.toNat ∧
        start = first - s.cfg.width / 2)) →
    ((k = 0 ∧ i = .displayOn) ∨ (k = 1 ∧ i = .setColumn (BitVec.ofNat 8 start)) ∨
      (k = 2 ∧ i = .setPage (BitVec.ofNat 8 p)) ∨
      (∃ j, k = 3 + j ∧ first + j ≤ last ∧ i = .pageData (packByte s.bp s.neg (first + j) p))) →
    exec i s = .next t →
    step s = .next
      (if nextDraw s ≠ .ok ∨ k + 1 = 3 + (last + 1 - first) then
        (if h = .left ∧ s.cfg.width / 2 ≤ s.win.xe.toNat then
          { setMode .cmd (chipSelect .right t) with seq := .emit p .right 0 }
        else { t with seq := .rowEnd p })
      else if k = 2 then { setMode .data t with seq := .emit p h 3 }
      else { t with seq := .emit p h (k + 1) })) ∧
  (∀ (s t : State) (h : Panel) (m : BusMode) (b : Byte),
    s.seq = .raw h m b → s.inputs = [] →
    exec (match m with
      | .cmd => Instr.rawCmd b
      | .data => Instr.rawData b) (setMode m (chipSelect h s)) = .next t →
    step s = .next
      { deselectAll t with lastCode := if t.firstErr then ResultCode.busWrite else ResultCode.ok, seq := .idle }) ∧
  (∀ (s : State) (y x : Nat),
    s.seq = .convert y x → s.inputs = [] → x < s.cfg.width → y < s.cfg.height →
    admitted s.cfg (pixAddr s.cfg s.fbBase x y).toNat = true →
    admitted s.cfg (pixAddr s.cfg s.fbBase x y + 1).toNat = true →
    ∃ t : State, step s = .next t ∧
      t = { s with
        plane := t.plane, flushCount := t.flushCount
        seq := if x + 1 < s.cfg.width then .convert y (x + 1)
          else if y + 1 < s.cfg.height then .convert (y + 1) 0 else .dither 0 0 } ∧
      (Sized s.cfg.width s.cfg.height s.plane → ∀ x' y', cellAt t.plane y' x' =
        if x' = x ∧ y' = y then
          ((convert s.cfg s.gamma (memRead16 s (pixAddr s.cfg s.fbBase x y))).toNat : Int)
        else cellAt s.plane y' x')) ∧
  (∀ (s : State) (y x : Nat) (I : List (List Half)),
    s.seq = .dither y x → s.inputs = [] → x < s.cfg.width → y < s.cfg.height →
    I = (if s.dither then ditherStep s.cfg.width s.cfg.height s.plane (x, y) else threshStep s.plane (x, y)) →
    ∃ t : State, step s = .next t ∧
      (x + 1 < s.cfg.width →
        t = { s with plane := I, lb0 := t.lb0, lb1 := t.lb1, seq := .dither y (x + 1) }) ∧
      (x + 1 = s.cfg.width → y + 1 < s.cfg.height →
        t = { s with plane := I, lb0 := t.lb0, lb1 := t.lb1, seq := .dither (y + 1) 0 }) ∧
      (x + 1 = s.cfg.width → y + 1 = s.cfg.height →
        t = { s with
          plane := I, bp := planeBits I, lb0 := t.lb0, lb1 := t.lb1, lines := t.lines
          seq := pageEntry s.cfg s.win s.win.ysPage.toNat
          trace := s.trace ++ pageEntryEvents s.cfg s.win })) ∧
  (∀ (s : State) (p : Nat), s.seq = .rowEnd p → s.inputs = [] →
    ∃ t : State, step s = .next t ∧
      (p < s.win.yePage.toNat →
        t = { s with
          lines := t.lines, seq := pageEntry s.cfg s.win (p + 1)
          trace := s.trace ++ [.cs .left .deasserted, .cs .right .deasserted] ++ pageEntryEvents s.cfg s.win }) ∧
      (s.win.yePage.toNat ≤ p →
        t = { s with
          lines := t.lines, seq := .idle, lastCode := if s.firstErr then ResultCode.busWrite else ResultCode.ok
          trace := s.trace ++ [.cs .left .deasserted, .cs .right .deasserted]
          plane := t.plane, lb0 := t.lb0, lb1 := t.lb1, bp := t.bp, workCount := t.workCount }))

/-- R301 (by the mark of log 9), R302, R72: an overlapping transaction is refused, whatever the block does; a register access that is not an aligned
32-bit word is refused. -/
def Obligations.StepRefusesOverlapAndBadAccess : Prop :=
  (∀ (s : State) (t : Transaction) (rest : List HostEvent),
    s.inputs = .overlap t :: rest → step s = .refused .hostOverlap) ∧
  (∀ (s : State) (t : Transaction) (rest : List HostEvent),
    s.seq = .idle → s.inputs = .access t :: rest → (t.width ≠ 32 ∨ t.off.toNat % 4 ≠ 0) →
    step s = .refused .unsupportedAccess)

/-- R336: after reset the block is idle and waits for the first host transaction: with nothing pending, nothing changes. -/
def Obligations.IdleBlockWaits : Prop :=
  ∀ s : State, s.seq = .idle → s.inputs = [] → step s = .next s

/-! ### Register reads and writes -/

/-- R263, R103, R34: RD CTRL returns NEG and DITHER in bits 1 and 0 and 0 above, and 0x00000001 after reset; nothing else
changes. -/
def Obligations.ReadCtrlReturnsBits : Prop :=
  (∀ s : State, ∃ v : Word, exec .rdCtrl s = .next { s with readLog := s.readLog ++ [v] } ∧
    v.getLsbD 0 = s.dither ∧ v.getLsbD 1 = s.neg ∧ ∀ i, 2 ≤ i → v.getLsbD i = false) ∧
  exec .rdCtrl State.reset = .next { State.reset with readLog := [0x00000001] }

/-- R105, R266: RD WINDOW returns the stored window in page form whatever WIN_VALID is; nothing else changes. -/
def Obligations.ReadWindowReturnsFields : Prop :=
  (∀ s : State, ∃ v : Word, exec .rdWindow s = .next { s with readLog := s.readLog ++ [v] } ∧
    v.extractLsb' 0 8 = s.win.xs ∧ v.extractLsb' 8 8 = s.win.ysPage ∧
    v.extractLsb' 16 8 = s.win.xe ∧ v.extractLsb' 24 8 = s.win.yePage) ∧
  exec .rdWindow State.reset = .next { State.reset with readLog := [0x00000000] }

/-- R110, R267, with the codes of R291: RD STATUS returns its fields at their bits, the other bits 0, with no side effect; a
write to STATUS changes nothing. -/
def Obligations.ReadStatusReturnsFields : Prop :=
  (∀ s : State, ∃ v : Word, exec .rdStatus s = .next { s with readLog := s.readLog ++ [v] } ∧
    v.extractLsb' 0 3 = s.lastCode.code ∧ v.getLsbD 3 = false ∧ v.getLsbD 4 = s.winValid ∧ v.getLsbD 5 = s.cfgErr ∧
    v.extractLsb' 6 2 = 0 ∧ v.extractLsb' 8 8 = s.lineCode ∧ v.extractLsb' 16 16 = 0) ∧
  (ResultCode.ok.code = 0 ∧ ResultCode.invalidWindow.code = 1 ∧ ResultCode.busWrite.code = 2 ∧
    ResultCode.noWindow.code = 3 ∧ ResultCode.config.code = 4) ∧
  (∀ s : State, exec .wrStatus s = .next s)

/-- R111, R268: RD ERR_INFO returns its fields at their bits, the other bits 0, with no side effect; a write to ERR_INFO
changes nothing. -/
def Obligations.ReadErrInfoReturnsFields : Prop :=
  (∀ s : State, ∃ v : Word, exec .rdErrInfo s = .next { s with readLog := s.readLog ++ [v] } ∧
    v.extractLsb' 0 8 = s.errInfo.offset ∧ v.extractLsb' 8 8 = s.errInfo.count ∧
    v.extractLsb' 16 5 = s.errInfo.page ∧ v.getLsbD 21 = decide (s.errInfo.panel = .right) ∧
    v.extractLsb' 22 10 = 0) ∧
  (∀ s : State, exec .wrErrInfo s = .next s)

/-- R42, R112, R269: RD GEOM returns W in bits [15:0] and H in bits [31:16], 0x00400080 with the default geometry; a write to
GEOM changes nothing. -/
def Obligations.ReadGeomReturnsGeometry : Prop :=
  (∀ s : State, s.cfg.width < 65536 → s.cfg.height < 65536 →
    ∃ v : Word, exec .rdGeom s = .next { s with readLog := s.readLog ++ [v] } ∧
      (v.extractLsb' 0 16).toNat = s.cfg.width ∧ (v.extractLsb' 16 16).toNat = s.cfg.height) ∧
  (∀ s : State, s.cfg.width = 128 → s.cfg.height = 64 →
    exec .rdGeom s = .next { s with readLog := s.readLog ++ [0x00400080] }) ∧
  (∀ s : State, exec .wrGeom s = .next s)

/-- R265, R115, R114: RD FB_BASE returns FB_BASE; a read of a write-only register or of an unmapped offset returns 0 and starts
nothing; a write to a read-only register or to an unmapped offset changes nothing. -/
def Obligations.PlainAccessesAnswer : Prop :=
  ∀ (s : State) (off : Byte),
    exec .rdFbBase s = .next { s with readLog := s.readLog ++ [s.fbBase] } ∧
    exec .rdFlush s = .next { s with readLog := s.readLog ++ [0] } ∧
    exec .rdBusCmd s = .next { s with readLog := s.readLog ++ [0] } ∧
    exec .rdBusData s = .next { s with readLog := s.readLog ++ [0] } ∧
    exec (.rdUnmapped off) s = .next { s with readLog := s.readLog ++ [0] } ∧
    exec (.wrUnmapped off) s = .next s ∧
    exec .wrStatus s = .next s ∧ exec .wrErrInfo s = .next s ∧ exec .wrGeom s = .next s

/-- R262, R103: a write of CTRL sets DITHER from data[0] and NEG from data[1], whatever CFG_ERR is, and nothing else. -/
def Obligations.WriteCtrlSetsBits : Prop :=
  (∀ (s : State) (d n : Bool), exec (.wrCtrl d n) s = .next { s with dither := d, neg := n }) ∧
  (∀ (s : State) (data : Word) (rest : List HostEvent),
    s.seq = .idle → s.inputs = .access ⟨.wr, 0x00, 32, data⟩ :: rest →
    step s = .next { s with inputs := rest, dither := data.getLsbD 0, neg := data.getLsbD 1 })

/-- R264, R107, R37: a write of FB_BASE stores bits [31:1] of the data and 0 in bit 0, whatever CFG_ERR is, and nothing
else. -/
def Obligations.WriteFbBaseClearsBitZero : Prop :=
  ∀ (s : State) (data : Word), ∃ v : Word, exec (.wrFbBase data) s = .next { s with fbBase := v } ∧
    v.getLsbD 0 = false ∧ ∀ i, 1 ≤ i → v.getLsbD i = data.getLsbD i

/-! ### SET_WINDOW and the gates -/

/-- R253, R35: a SET_WINDOW whose operands satisfy the window invariant stores the window in page form, sets WIN_VALID and
reports OK with the error record cleared; nothing else changes. -/
def Obligations.SetWindowStoresWindow : Prop :=
  ∀ (s : State) (xs ys xe ye : Byte), s.cfgErr = false →
    xs.toNat ≤ xe.toNat → xe.toNat < s.cfg.width →
    ys.toNat / 8 ≤ ye.toNat / 8 → ye.toNat / 8 < s.cfg.height / 8 →
    ∃ w : Window, w.xs = xs ∧ w.xe = xe ∧ w.ysPage.toNat = ys.toNat / 8 ∧ w.yePage.toNat = ye.toNat / 8 ∧
      exec (.setWindow xs ys xe ye) s = .next { s with
        win := w, winValid := true, lastCode := .ok
        firstErr := false, lineCode := 0, errInfo := ⟨0, 0, 0, .left⟩ }

/-- R253, R292: a SET_WINDOW whose operands break the window invariant clears WIN_VALID and reports INVALID_WINDOW with the error
record cleared; WIN keeps its fields, no bus event happens and nothing else changes. -/
def Obligations.SetWindowRejectsWindow : Prop :=
  ∀ (s : State) (xs ys xe ye : Byte), s.cfgErr = false →
    (xe.toNat < xs.toNat ∨ s.cfg.width ≤ xe.toNat ∨ ye.toNat / 8 < ys.toNat / 8 ∨
      s.cfg.height / 8 ≤ ye.toNat / 8) →
    exec (.setWindow xs ys xe ye) s = .next { s with
      winValid := false, lastCode := .invalidWindow
      firstErr := false, lineCode := 0, errInfo := ⟨0, 0, 0, .left⟩ }

/-- R251, R252, R293, R297: with CFG_ERR = 1 each of the four operations clears the error record, reports CONFIG and does
nothing else. -/
def Obligations.ConfigErrorGatesOperations : Prop :=
  ∀ (s : State) (i : Instr), s.cfgErr = true →
    ((∃ xs ys xe ye, i = .setWindow xs ys xe ye) ∨ i = .flush ∨ (∃ h b, i = .busCmd h b) ∨
      (∃ h b, i = .busData h b)) →
    exec i s = .next { s with
      lastCode := .config, firstErr := false, lineCode := 0, errInfo := ⟨0, 0, 0, .left⟩ }

/-- R295, R252: a FLUSH with WIN_VALID = 0 clears the error record and reports NO_WINDOW: no pixel read, no dithering, no bus
event, nothing else changes. -/
def Obligations.FlushWithoutWindow : Prop :=
  ∀ s : State, s.cfgErr = false → s.winValid = false →
    exec .flush s = .next { s with
      lastCode := .noWindow, firstErr := false, lineCode := 0, errInfo := ⟨0, 0, 0, .left⟩ }

/-! ### FLUSH -/

/-- R80, R303: a FLUSH that would read a pixel byte the platform does not admit is stuck: it has no next state, and the model
says so by a fault with the address (log 20). -/
def Obligations.FlushStuckOnRefusedRead : Prop :=
  ∀ (s : State) (x y : Nat), s.cfgErr = false → s.winValid = true →
    x < s.cfg.width → y < s.cfg.height →
    (admitted s.cfg (pixAddr s.cfg s.fbBase x y).toNat = false ∨
      admitted s.cfg (pixAddr s.cfg s.fbBase x y + 1).toNat = false) →
    ∃ a, exec .flush s = .fault (.sourceReadStuck a)

/-- R254, R258, R305, R237, R238, R74: with a valid window and an admitted plane a FLUSH completes under every line-layer
answer, and whatever the answers every page of the window selects each panel the window touches, left before right, and then
deselects both. At the end the sequencer is idle again, both chip-selects and the latch line are deasserted, the result code
is OK or BUS_WRITE, and CTRL, WIN, WIN_VALID, FB_BASE, CFG_ERR, the configuration, GAMMA, the source memory, the pending
stores and events and the read values are unchanged. -/
def Obligations.FlushCompletes : Prop :=
  ∀ s : State, s.cfgErr = false → s.winValid = true → windowOk s.cfg s.win = true → PlaneAdmitted s →
    ∃ (t : State) (es : List BusEvent), exec .flush s = .next t ∧ t.trace = s.trace ++ es ∧
      (es.filter fun e => match e with
        | .cs _ _ => true
        | _ => false) =
        (List.range (s.win.yePage.toNat + 1 - s.win.ysPage.toNat)).flatMap (fun _ =>
          (if s.win.xs.toNat < s.cfg.width / 2 then [.cs .right .deasserted, .cs .left .asserted] else []) ++
          (if s.cfg.width / 2 ≤ s.win.xe.toNat then [.cs .left .deasserted, .cs .right .asserted] else []) ++
          [.cs .left .deasserted, .cs .right .deasserted]) ∧
      t.seq = .idle ∧ t.dly = 0 ∧
      t.lines.cs0 = .deasserted ∧ t.lines.cs1 = .deasserted ∧ t.lines.e = .deasserted ∧ t.lines.rw = s.lines.rw ∧
      t.lastCode = (if t.firstErr then ResultCode.busWrite else ResultCode.ok) ∧
      t.dither = s.dither ∧ t.neg = s.neg ∧ t.win = s.win ∧ t.winValid = s.winValid ∧ t.fbBase = s.fbBase ∧
      t.cfgErr = s.cfgErr ∧ t.cfg = s.cfg ∧ t.gamma = s.gamma ∧
      (∀ a, memGet t.mem a = memGet s.mem a) ∧ t.unordered = s.unordered ∧ t.inputs = s.inputs ∧
      t.readLog = s.readLog

/-- R258, R294, R296, R260: FLUSH, BUS_CMD and BUS_DATA report BUS_WRITE exactly when the events they append hold a FAULT, and
LINE_CODE is the code of the first one, 0 when there is none. -/
def Obligations.BusResultIsFirstFault : Prop :=
  ∀ (s t : State) (i : Instr), s.cfgErr = false → (i = .flush → s.winValid = true) →
    (i = .flush ∨ (∃ h b, i = .busCmd h b) ∨ (∃ h b, i = .busData h b)) → exec i s = .next t →
    ∃ es, t.trace = s.trace ++ es ∧
      t.lastCode = (if es.any (fun e => match e with
        | .fault _ => true
        | _ => false) then ResultCode.busWrite else ResultCode.ok) ∧
      t.lineCode = (es.findSome? fun e => match e with
        | .fault c => some c
        | _ => none).getD 0

/-- R257, R230, R195, R196, R192 to R194, R232: without line faults, the latch pulses of a FLUSH are, page by page in ascending
order, for the left panel and then for the right, each where the window touches it: display-on, the column command of the
panel-local start, the page command, and the packed byte of each column in increasing order, with exactly that panel's
chip-select asserted; the FLUSH reports OK. -/
def Obligations.FlushLatchesPackedPages : Prop :=
  ∀ (s : State) (bp : List (List Bool)) (B : Nat),
    s.cfgErr = false → s.winValid = true → PlaneAdmitted s → FaultFree (flushBytes s.cfg s.win) s →
    bp = planeBits (quantizedPlane s.dither s.cfg.width s.cfg.height (convertedPlane s)) → B = s.cfg.width / 2 →
    ∃ (t : State) (es : List BusEvent), exec .flush s = .next t ∧ t.trace = s.trace ++ es ∧
      latched s.lines es =
        ((List.range (s.win.yePage.toNat + 1 - s.win.ysPage.toNat)).map (s.win.ysPage.toNat + ·)).flatMap (fun p =>
          (if s.win.xs.toNat < B then
            [latchedBy .left .cmd s.cfg.cmdDisplayOn, latchedBy .left .cmd (colCmdByte s.cfg s.win.xs.toNat),
              latchedBy .left .cmd (pageCmdByte s.cfg p)] ++
            (List.range (min s.win.xe.toNat (B - 1) + 1 - s.win.xs.toNat)).map (fun j =>
              latchedBy .left .data (packByte bp s.neg (s.win.xs.toNat + j) p))
          else []) ++
          (if B ≤ s.win.xe.toNat then
            [latchedBy .right .cmd s.cfg.cmdDisplayOn,
              latchedBy .right .cmd (colCmdByte s.cfg (max s.win.xs.toNat B - B)),
              latchedBy .right .cmd (pageCmdByte s.cfg p)] ++
            (List.range (s.win.xe.toNat + 1 - max s.win.xs.toNat B)).map (fun j =>
              latchedBy .right .data (packByte bp s.neg (max s.win.xs.toNat B + j) p))
          else [])) ∧
      t.lastCode = .ok ∧ t.lineCode = 0 ∧ t.errInfo = ⟨0, 0, 0, .left⟩

/-- R270: two FLUSHes in a row, with no host store pending and no line fault, append the same events and report the same
status. That an unlisted byte reads the same in both is log 6, that both reads are admitted is log 25. -/
def Obligations.ReflushIsIdempotent : Prop :=
  ∀ s : State, s.cfgErr = false → s.winValid = true → PlaneAdmitted s → s.unordered = [] →
    FaultFree (2 * flushBytes s.cfg s.win) s →
    ∃ (t u : State) (es : List BusEvent), exec .flush s = .next t ∧ exec .flush t = .next u ∧
      t.trace = s.trace ++ es ∧ u.trace = t.trace ++ es ∧
      u.lastCode = t.lastCode ∧ u.lineCode = t.lineCode ∧ u.errInfo = t.errInfo ∧ u.lines = t.lines

/-- R81: a FLUSH reads nothing outside the pixel plane: another source memory that agrees on the plane's bytes gives the same
outcome, but for the memory itself. -/
def Obligations.FlushReadsOnlyThePlane : Prop :=
  ∀ (s : State) (m : Memory), (∀ a, InPixelPlane s a → memGet m a = memGet s.mem a) →
    exec .flush { s with mem := m } =
      (match exec .flush s with
        | .next t => .next { t with mem := m }
        | .fault r => .fault r
        | .refused r => .refused r)

/-! ### Bus bytes -/

/-- R220, R233 to R236: at an EMIT position and with the answer OK, each byte form of a FLUSH transfer appends the six events
of its byte and leaves the byte on the data lines with E deasserted; nothing else changes. That a form runs at every EMIT
position is log 15, the free byte of an address outside its command table log 12 (DESIGN CHOICE both). -/
def Obligations.FlushByteEmits : Prop :=
  ∀ (s : State) (i : Instr) (b : Byte) (p : Nat) (h : Panel) (k : Nat),
    s.seq = .emit p h k → nextDraw s = .ok →
    ((i = .displayOn ∧ b = s.cfg.cmdDisplayOn) ∨
      (∃ j, i = .setColumn j ∧ (s.cfg.colCmd[j.toNat]? = some b ∨
        (s.cfg.colCmd[j.toNat]? = none ∧ b = Config.freeColCmd j.toNat))) ∨
      (∃ q, i = .setPage q ∧ (s.cfg.pageCmd[q.toNat]? = some b ∨
        (s.cfg.pageCmd[q.toNat]? = none ∧ b = Config.freePageCmd q.toNat))) ∨ i = .pageData b) →
    exec i s = .next { takeDraw s with
      trace := s.trace ++ [.data b, .wait (.cycles s.cfg.tSuCyc), .e .asserted, .wait (.ns 5000), .e .deasserted,
        .wait (.ns 1000)]
      lines := { s.lines with d := b, e := .deasserted }, dly := 0 }

/-- R220, R239, R260, R261: the same for the byte of a raw transfer. -/
def Obligations.RawByteEmits : Prop :=
  ∀ (s : State) (i : Instr) (b b' : Byte) (h : Panel) (m : BusMode),
    s.seq = .raw h m b' → nextDraw s = .ok →
    ((i = .rawCmd b ∧ m = .cmd) ∨ (i = .rawData b ∧ m = .data)) →
    exec i s = .next { takeDraw s with
      trace := s.trace ++ [.data b, .wait (.cycles s.cfg.tSuCyc), .e .asserted, .wait (.ns 5000), .e .deasserted,
        .wait (.ns 1000)]
      lines := { s.lines with d := b, e := .deasserted }, dly := 0 }

/-- R222, R223, R230, R296, R41: with a failing answer, a byte form of a FLUSH transfer appends the shown events, the recovery
and the FAULT, keeps the chip-selects and the mode, and records panel, page, offset, count and code if no fault was recorded
before. The free byte of an address outside its command table is log 12, the form at every EMIT position log 15, and the
truncation of values beyond the record's fields log 22 (DESIGN CHOICE all three). -/
def Obligations.FlushByteFaultIsRecorded : Prop :=
  ∀ (s : State) (i : Instr) (b : Byte) (p : Nat) (h : Panel) (k : Nat) (c : Fin 255) (n : Fin 7),
    s.seq = .emit p h k → nextDraw s = .fail c n →
    ((i = .displayOn ∧ b = s.cfg.cmdDisplayOn) ∨
      (∃ j, i = .setColumn j ∧ (s.cfg.colCmd[j.toNat]? = some b ∨
        (s.cfg.colCmd[j.toNat]? = none ∧ b = Config.freeColCmd j.toNat))) ∨
      (∃ q, i = .setPage q ∧ (s.cfg.pageCmd[q.toNat]? = some b ∨
        (s.cfg.pageCmd[q.toNat]? = none ∧ b = Config.freePageCmd q.toNat))) ∨ i = .pageData b) →
    ∃ t : State, exec i s = .next t ∧
      t.trace = s.trace ++ ([.data b, .wait (.cycles s.cfg.tSuCyc), .e .asserted, .wait (.ns 5000), .e .deasserted,
        .wait (.ns 1000)].take n.val ++ [.e .deasserted, .wait (.ns 1000), .fault (BitVec.ofNat 8 (c.val + 1))]) ∧
      t.lines.e = .deasserted ∧ t.lines.mode = s.lines.mode ∧ t.lines.cs0 = s.lines.cs0 ∧ t.lines.cs1 = s.lines.cs1 ∧
      t.lines.d = (if n.val = 0 then s.lines.d else b) ∧ t.lines.rw = s.lines.rw ∧
      (s.firstErr = false → t.firstErr = true ∧ t.lineCode = BitVec.ofNat 8 (c.val + 1) ∧
        t.errInfo = ⟨BitVec.ofNat 8 k, BitVec.ofNat 8 (3 + (windowColumns s.cfg s.win h).length), BitVec.ofNat 5 p, h⟩) ∧
      (s.firstErr = true → t.firstErr = true ∧ t.lineCode = s.lineCode ∧ t.errInfo = s.errInfo) ∧
      { t with trace := s.trace, lines := s.lines, dly := s.dly, firstErr := s.firstErr, lineCode := s.lineCode,
               errInfo := s.errInfo } = takeDraw s

/-- Log 15 (DESIGN CHOICE): a BUS form executed where no operation emits it is refused, since R121 gives it no effect outside
the operation that emits it. -/
def Obligations.BusFormsOutsideTheirOperation : Prop :=
  ∀ (s : State) (b : Byte),
    ((∀ p h k, s.seq ≠ .emit p h k) →
      exec .displayOn s = .refused .notEmitting ∧ exec (.setColumn b) s = .refused .notEmitting ∧
      exec (.setPage b) s = .refused .notEmitting ∧ exec (.pageData b) s = .refused .notEmitting) ∧
    ((∀ h b', s.seq ≠ .raw h .cmd b') → exec (.rawCmd b) s = .refused .notEmitting) ∧
    ((∀ h b', s.seq ≠ .raw h .data b') → exec (.rawData b) s = .refused .notEmitting)

/-- R239, R260, R261, R216 to R220: without a line fault, BUS_CMD and BUS_DATA append the eleven events of a raw transfer,
report OK with the error record cleared and leave the byte on the data lines, both panels deselected; nothing else
changes. -/
def Obligations.RawTransferWithoutFault : Prop :=
  ∀ (s : State) (h : Panel) (m : BusMode) (b : Byte),
    s.cfgErr = false → nextDraw s = .ok →
    exec (match m with
      | .cmd => Instr.busCmd h b
      | .data => Instr.busData h b) s = .next { takeDraw s with
        firstErr := false, lineCode := 0, errInfo := ⟨0, 0, 0, .left⟩, lastCode := .ok
        seq := .idle, dly := 0
        lines := { s.lines with d := b, e := .deasserted, mode := m, cs0 := .deasserted, cs1 := .deasserted }
        trace := s.trace ++ [.cs (otherPanel h) .deasserted, .cs h .asserted, .mode m,
          .data b, .wait (.cycles s.cfg.tSuCyc), .e .asserted, .wait (.ns 5000), .e .deasserted, .wait (.ns 1000),
          .cs .left .deasserted, .cs .right .deasserted] }

/-- R222, R223, R239, R260, R294: with a failing answer, BUS_CMD and BUS_DATA show the first events of the byte, the recovery
and the FAULT, still deselect both panels, and report BUS_WRITE with the failure code and the raw ERR_INFO. -/
def Obligations.RawTransferWithFault : Prop :=
  ∀ (s : State) (h : Panel) (m : BusMode) (b : Byte) (c : Fin 255) (n : Fin 7),
    s.cfgErr = false → nextDraw s = .fail c n →
    exec (match m with
      | .cmd => Instr.busCmd h b
      | .data => Instr.busData h b) s = .next { takeDraw s with
        firstErr := true, lineCode := BitVec.ofNat 8 (c.val + 1), errInfo := ⟨0, 1, 0, h⟩, lastCode := .busWrite
        seq := .idle, dly := 0
        lines := { s.lines with
          d := if n.val = 0 then s.lines.d else b
          e := .deasserted, mode := m, cs0 := .deasserted, cs1 := .deasserted }
        trace := s.trace ++ ([.cs (otherPanel h) .deasserted, .cs h .asserted, .mode m] ++
          [.data b, .wait (.cycles s.cfg.tSuCyc), .e .asserted, .wait (.ns 5000), .e .deasserted,
            .wait (.ns 1000)].take n.val ++
          [.e .deasserted, .wait (.ns 1000), .fault (BitVec.ofNat 8 (c.val + 1)),
            .cs .left .deasserted, .cs .right .deasserted]) }

/-- R237, R230: a line fault at byte `k` of a transfer ends it: exactly the bytes before it and the failing one are drawn, and
the transfer reports failure and records the byte. That OFFSET, COUNT and PAGE keep their low 8, 8 and 5 bits for a transfer
of more than 252 data bytes or a page above 31 is the model's choice (DESIGN CHOICE, log 22). -/
def Obligations.FaultEndsTransfer : Prop :=
  ∀ (s : State) (r : PageRecord) (k : Nat) (c : Fin 255) (n : Fin 7) (rest : List LineDraw),
    k < 3 + r.bytes.length → s.lineDraws = List.replicate k .ok ++ .fail c n :: rest →
    (transfer r s).1 = false ∧ (transfer r s).2.lineDraws = rest ∧
    (s.firstErr = false → (transfer r s).2.errInfo =
      ⟨BitVec.ofNat 8 k, BitVec.ofNat 8 (3 + r.bytes.length), BitVec.ofNat 5 r.page, r.panel⟩)

/-! ### The bus over every step -/

/-- R215, R240, R211: over every step, from any lines with at most one chip-select asserted, the step appends events after
each of which at most one is asserted, and the lines are those after the events. -/
def Obligations.ChipSelectsNeverBothAsserted : Prop :=
  ∀ s t : State, csExclusive s.lines → step s = .next t →
    ∃ es, t.trace = s.trace ++ es ∧ t.lines = linesAfter s.lines es ∧ CsSafe s.lines es

/-- R15 to R17, R35, R37, R39 to R41, R52, R54, R214, R223, R238, R239: every step from a state between operations leaves a state between
operations, with the invariant `Inv`. That a reset keeps every parameter but LINES_OK is log 24. -/
def Obligations.EveryStepKeepsInv : Prop :=
  ∀ s t : State, Inv s → step s = .next t → Inv t

/-- The invariant holds after power-on reset (R330, under the default parameters of log 2). -/
def Obligations.InvHoldsAtReset : Prop := Inv State.reset

/-! ### Whole-machine frames -/

/-- R74, R45, R39, R42: no instruction changes the source memory at any address, the host's pending stores and events, GAMMA,
CFG_ERR or the configuration. -/
def Obligations.NoInstructionWritesSourceOrConfig : Prop :=
  ∀ (i : Instr) (s t : State), exec i s = .next t →
    t.mem = s.mem ∧ (∀ a, memGet t.mem a = memGet s.mem a) ∧ t.unordered = s.unordered ∧ t.inputs = s.inputs ∧
    t.gamma = s.gamma ∧ t.cfgErr = s.cfgErr ∧ t.cfg = s.cfg

/-- R35, R36, R32, R33, R37: of all instructions only SET_WINDOW changes WIN or WIN_VALID, only WR_CTRL changes CTRL and only
WR_FB_BASE changes FB_BASE. -/
def Obligations.RegistersHaveOneWriter : Prop :=
  ∀ (i : Instr) (s t : State), exec i s = .next t →
    ((∀ xs ys xe ye, i ≠ .setWindow xs ys xe ye) → t.win = s.win ∧ t.winValid = s.winValid) ∧
    ((∀ d n, i ≠ .wrCtrl d n) → t.dither = s.dither ∧ t.neg = s.neg) ∧
    ((∀ a, i ≠ .wrFbBase a) → t.fbBase = s.fbBase)

/-- R250, R38, R219, R312, R353: only the four operations write LAST_CODE, and only they and the BUS forms write the error
record, the bus or DLY. That only FLUSH changes the working memories is the model's choice (log 11): the spec leaves their
contents between FLUSHes unspecified. -/
def Obligations.StatusAndBusWriters : Prop :=
  ∀ (i : Instr) (s t : State), exec i s = .next t →
    (((∀ xs ys xe ye, i ≠ .setWindow xs ys xe ye) ∧ i ≠ .flush ∧ (∀ h b, i ≠ .busCmd h b) ∧ (∀ h b, i ≠ .busData h b)) →
      t.lastCode = s.lastCode ∧ t.seq = s.seq ∧
      ((i ≠ .displayOn ∧ (∀ b, i ≠ .setColumn b) ∧ (∀ b, i ≠ .setPage b) ∧ (∀ b, i ≠ .pageData b) ∧ (∀ b, i ≠ .rawCmd b) ∧
          (∀ b, i ≠ .rawData b)) →
        t.firstErr = s.firstErr ∧ t.lineCode = s.lineCode ∧ t.errInfo = s.errInfo ∧ t.lines = s.lines ∧ t.trace = s.trace ∧
        t.dly = s.dly)) ∧
    (i ≠ .flush → t.plane = s.plane ∧ t.lb0 = s.lb0 ∧ t.lb1 = s.lb1 ∧ t.bp = s.bp)

/-! ### Converter -/

/-- R145: when the expanded channels are equal to `v`, the luma is `v` and the converter returns GAMMA[v], for every weights that
sum to WDEN. -/
def Obligations.GrayGivesGammaEntry : Prop :=
  ∀ (p : Params) (gamma : Vector Byte 256) (px : Half) (v : Byte), WeightsOk p → channels p.pixFmt px = (v, v, v) →
    luma p px = v ∧ convert p gamma px = gamma[v.toNat]

/-- R144: the luma is the weighted sum of the channels over WDEN, truncated and clamped to 255; under the weight constraint
the sum is at most 255 * WDEN, so the clamp never changes the value. That the first clause holds at WDEN = 0 too, where the
division gives 0, and clamps for weights that R15 forbids, is the model's choice (DESIGN CHOICE, log 22). -/
def Obligations.LumaNeedsNoClamp : Prop :=
  ∀ (p : Params) (px : Half) (r g b : Byte), channels p.pixFmt px = (r, g, b) →
    (luma p px).toNat = min ((p.wr * r.toNat + p.wg * g.toNat + p.wb * b.toNat) / p.wden) 255 ∧
    (WeightsOk p → p.wr * r.toNat + p.wg * g.toNat + p.wb * b.toNat ≤ 255 * p.wden ∧
      (luma p px).toNat = (p.wr * r.toNat + p.wg * g.toNat + p.wb * b.toNat) / p.wden)

/-- R141, R142, R143: the channels of a pixel are its fields by bit replication, and RGB555 ignores bit 15. -/
def Obligations.ChannelsAreReplicatedFields : Prop :=
  (∀ px : Half, (channels .rgb565 px).1.toNat = px.toNat / 2048 * 8 + px.toNat / 2048 / 4 ∧
    (channels .rgb565 px).2.1.toNat = px.toNat / 32 % 64 * 4 + px.toNat / 32 % 64 / 16 ∧
    (channels .rgb565 px).2.2.toNat = px.toNat % 32 * 8 + px.toNat % 32 / 4) ∧
  (∀ px : Half, (channels .rgb555 px).1.toNat = px.toNat / 1024 % 32 * 8 + px.toNat / 1024 % 32 / 4 ∧
    (channels .rgb555 px).2.1.toNat = px.toNat / 32 % 32 * 8 + px.toNat / 32 % 32 / 4 ∧
    (channels .rgb555 px).2.2.toNat = px.toNat % 32 * 8 + px.toNat % 32 / 4)

/-! ### Ditherer -/

/-- R162 to R165: for an intensity of 0 to 255 the quantized value is WHITE exactly from 128 on, the error lies in -127 to 127 and
the diffused error in -15 to 15, truncated toward zero. -/
def Obligations.QuantizeAtTheMidpoint : Prop :=
  ∀ p : Int, 0 ≤ p → p ≤ 255 →
    quantize p = (if 128 ≤ p then 255 else 0) ∧ -127 ≤ p - quantize p ∧ p - quantize p ≤ 127 ∧
    -15 ≤ diffusedError p ∧ diffusedError p ≤ 15 ∧
    diffusedError p = (if 128 ≤ p then -((255 - p) / 8) else p / 8)

/-- R170, R166 to R168: a dithering step overwrites its own cell with the quantized value, adds the weighted error to the three
targets inside the plane with a clamp, and changes no other cell. -/
def Obligations.DitherStepWritesKernel : Prop :=
  ∀ (w h : Nat) (I : List (List Half)) (x y : Nat), Sized w h I → CellsInRange w h I → x < w → y < h →
    ∀ x' y', x' < w → y' < h →
      cellAt (ditherStep w h I (x, y)) y' x' =
        if x' = x ∧ y' = y then quantize (cellAt I y x)
        else if x' = x + 1 ∧ y' = y then clamp255 (cellAt I y' x' + diffusedError (cellAt I y x) * 3)
        else if x' = x ∧ y' = y + 1 then clamp255 (cellAt I y' x' + diffusedError (cellAt I y x) * 3)
        else if x' = x + 1 ∧ y' = y + 1 then clamp255 (cellAt I y' x' + diffusedError (cellAt I y x) * 2)
        else cellAt I y' x'

/-- R169: every cell lies in 0 to 255 at every point of the ditherer. -/
def Obligations.DitherCellsStayInRange : Prop :=
  ∀ (w h : Nat) (I : List (List Half)), Sized w h I → CellsInRange w h I →
    ∀ n, CellsInRange w h (((raster w h).take n).foldl (ditherStep w h) I)

/-- R172: after DITHER every cell holds exactly BLACK or WHITE. -/
def Obligations.DitherClosure : Prop :=
  ∀ (w h : Nat) (I : List (List Half)), Sized w h I → CellsInRange w h I →
    ∀ x y, x < w → y < h →
      cellAt (ditherPlane w h I) y x = 0 ∨ cellAt (ditherPlane w h I) y x = 255

/-- R175, R174: the line-buffer realization gives the same bit plane as the full-plane rules. -/
def Obligations.LineBuffersGiveSameBits : Prop :=
  ∀ (w h : Nat) (b0 b1 : List Half) (I : List (List Half)), Sized w h I →
    (lineBufferRun w b0 b1 I).1 = planeBits (ditherPlane w h I)

/-- R176: the threshold pass makes each cell WHITE exactly from 128 on, on its own value. -/
def Obligations.ThresholdIsPerPixel : Prop :=
  ∀ (w h : Nat) (I : List (List Half)), Sized w h I → CellsInRange w h I →
    ∀ x y, x < w → y < h →
      cellAt (threshPlane w h I) y x = if 128 ≤ cellAt I y x then 255 else 0

/-- R146, R255: the convert phase fills a plane of H rows of W cells with values of 0 to 255. -/
def Obligations.ConvertedPlaneInRange : Prop :=
  ∀ s : State, Sized s.cfg.width s.cfg.height (convertedPlane s) ∧
    CellsInRange s.cfg.width s.cfg.height (convertedPlane s) ∧
    ∀ x y, x < s.cfg.width → y < s.cfg.height →
      cellAt (convertedPlane s) y x =
        ((convert s.cfg s.gamma (memRead16 s (pixAddr s.cfg s.fbBase x y))).toNat : Int)

/-! ### Packer -/

/-- R194, R122: bit `i` of a packed byte is the pixel at row 8p + i, inverted when NEG is 1. -/
def Obligations.PackedBitIsPixel : Prop :=
  ∀ (bp : List (List Bool)) (neg : Bool) (x p i : Nat), i < 8 →
    (packByte bp neg x p).getLsbD i = ((bitAt bp (8 * p + i) x) ^^ neg)

/-- R191, R192, R193, R197: the columns packed for the touched panels, left then right, are the window's columns in order, and
each touched panel has at least one. -/
def Obligations.PanelsPartitionWindow : Prop :=
  ∀ (p : Params) (w : Window), w.xs.toNat ≤ w.xe.toNat →
    (([Panel.left, Panel.right].filter fun h => touches p w h).flatMap fun h => windowColumns p w h) =
      (List.range (w.xe.toNat + 1 - w.xs.toNat)).map (w.xs.toNat + ·) ∧
    (∀ h, touches p w h = true → windowColumns p w h ≠ [])

/-- R192, R193, R125: the panel-local column start of a transfer is xs on the left and max(xs, B) - B on the right; for a legal
geometry and window its columns lie below PANEL_COLS and its page below PANEL_PAGES. -/
def Obligations.LocalAddressesInRange : Prop :=
  ∀ (p : Params) (w : Window),
    columnStart p w .left = w.xs.toNat ∧
    columnStart p w .right = max w.xs.toNat (p.width / 2) - p.width / 2 ∧
    ∀ h, geometryOk p = true → windowOk p w = true → touches p w h = true →
      columnStart p w h + (windowColumns p w h).length ≤ boundary p ∧ boundary p ≤ p.panelCols ∧
      ∀ pg ∈ windowPages w, w.ysPage.toNat ≤ pg ∧ pg ≤ w.yePage.toNat ∧ pg < p.panelPages

/-! ### Source memory -/

/-- R75, R77, R79: every pixel address is even when bit 0 of FB_BASE is 0, and is FB_BASE + 2(yW + x) modulo 2^32. -/
def Obligations.PixelAddressIsEven : Prop :=
  ∀ (p : Params) (base : Word) (x y : Nat),
    (pixAddr p base x y).toNat = (base.toNat + 2 * (y * p.width + x)) % 2 ^ 32 ∧
    (base.getLsbD 0 = false → (pixAddr p base x y).toNat % 2 = 0)

/-- R76, R78: with no racing store, a pixel read of two listed bytes is little-endian. -/
def Obligations.PixelReadIsLittleEndian : Prop :=
  ∀ (s : State) (a : Word) (lo hi : Byte), s.unordered = [] →
    memGet s.mem a.toNat = some lo → memGet s.mem (a + 1).toNat = some hi →
    (memRead16 s a).extractLsb' 0 8 = lo ∧ (memRead16 s a).extractLsb' 8 8 = hi

/-- R83, R89, with the model's list of unordered stores (log 7): a racing byte reads as the start value or as one of the values
stored to it, for every choice; a host store adds one unordered store and changes nothing else; the host's fence leaves at
each address the last byte stored to it, the byte before where none was, and changes nothing else. -/
def Obligations.RacingReadIsACandidate : Prop :=
  (∀ (s : State) (a : Nat), memReadByte s a = startByte s a ∨ ∃ b, (a, b) ∈ s.unordered ∧ memReadByte s a = b) ∧
  (∀ (s : State) (a : Word) (b : Byte) (rest : List HostEvent), s.inputs = .store a b :: rest →
    step s = .next { s with inputs := rest, unordered := s.unordered ++ [(a.toNat, b)] }) ∧
  (∀ (s : State) (rest : List HostEvent), s.seq = .idle → s.inputs = .fence :: rest →
    ∃ m : Memory, step s = .next { s with inputs := rest, mem := m, unordered := [] } ∧
      ∀ a, memGet m a = (((s.unordered.filter fun c => c.1 == a).getLast?).map (·.2)).or (memGet s.mem a))

/-! ### Reset -/

/-- R330, R331, R333: a reset event gives every register and line its reset value, computes CFG_ERR from the geometry and from
the LINES_OK it finds (log 24) and appends the six reset events; GAMMA, every other parameter, the source memory, the pending
stores and the values read before are untouched. -/
def Obligations.ResetValues : Prop :=
  ∀ (s : State) (l : Bool) (rest : List HostEvent), s.inputs = .reset l :: rest →
    ∃ t : State, step s = .next t ∧ AtReset l s t ∧ t.inputs = rest ∧
      t.trace = s.trace ++ [.e .deasserted, .cs .left .deasserted, .cs .right .deasserted, .mode .cmd, .rw .write,
        .data 0x00]

/-- R330: the host's reads right after power-on reset, under the default parameters (log 2). -/
def Obligations.ReadsAfterPowerOn : Prop :=
  exec .rdCtrl State.reset = .next (answer 0x00000001 State.reset) ∧
  exec .rdWindow State.reset = .next (answer 0x00000000 State.reset) ∧
  exec .rdStatus State.reset = .next (answer 0x00000000 State.reset) ∧
  exec .rdErrInfo State.reset = .next (answer 0x00000000 State.reset) ∧
  exec .rdGeom State.reset = .next (answer 0x00400080 State.reset) ∧
  exec .rdFbBase State.reset = .next (answer 0x00000000 State.reset) ∧
  cfgError State.reset.cfg = State.reset.cfgErr

/-- R332, by the event of log 10, with the LINES_OK it carries and every other parameter kept (log 24): a reset after `n` events of a transaction leaves those events and the six reset events in the
trace, the reset state of R330 in every register and no read value of the transaction; one that meets a stuck FLUSH leaves
the six reset events and the reset state. -/
def Obligations.ResetCutsTransaction : Prop :=
  ∀ (s : State) (tr : Transaction) (n : Nat) (l : Bool) (rest : List HostEvent) (i : Instr), s.seq = .idle →
    s.inputs = .resetDuring tr n l :: rest → decodeHost tr = .ok i →
    (∀ u : State, exec i { s with inputs := rest } = .next u →
      ∃ (t : State) (es : List BusEvent), step s = .next t ∧ AtReset l s t ∧ t.inputs = rest ∧ u.trace = s.trace ++ es ∧
        t.trace = s.trace ++ es.take n ++ [.e .deasserted, .cs .left .deasserted, .cs .right .deasserted, .mode .cmd,
          .rw .write, .data 0x00]) ∧
    (∀ f : Fault, exec i { s with inputs := rest } = .fault f →
      ∃ t : State, step s = .next t ∧ AtReset l s t ∧ t.inputs = rest ∧
        t.trace = s.trace ++ [.e .deasserted, .cs .left .deasserted, .cs .right .deasserted, .mode .cmd, .rw .write,
          .data 0x00])

/-! ### Timing and pins -/

/-- R225: the cycle count of a hold of `t` ns is the least number of cycles that lasts at least `t` ns. -/
def Obligations.WaitCyclesIsCeiling : Prop :=
  ∀ (p : Params) (t : Nat),
    t * p.clkHz ≤ waitCycles p (.ns t) * 1000000000 ∧
    ∀ n, t * p.clkHz ≤ n * 1000000000 → waitCycles p (.ns t) ≤ n

/-- R212, R18: the pin levels of the lines under the polarity parameters. -/
def Obligations.PinsFollowPolarity : Prop :=
  ∀ (p : Params) (l : Lines),
    ((pinsOf p l).cs0 = true ↔ (l.cs0 = .asserted ↔ p.csActiveHigh = true)) ∧
    ((pinsOf p l).cs1 = true ↔ (l.cs1 = .asserted ↔ p.csActiveHigh = true)) ∧
    ((pinsOf p l).e = true ↔ (l.e = .asserted ↔ p.eActiveHigh = true)) ∧
    ((pinsOf p l).mode = true ↔ (l.mode = .cmd ↔ p.modeCmdLevel = true)) ∧
    ((pinsOf p l).rw = true ↔ (l.rw = .write ↔ p.rwWriteLevel = true)) ∧ (pinsOf p l).d = l.d
end

