-- ==== Sys2Proof/Laws/State.lean ====
section
/-! SUPPORT. One lemma per field per basic update of the state: what the update leaves alone, and what it writes. -/

namespace Sys2Proof.Machine

open Sys2Proof

/-! ### `drive` -/

@[simp] theorem drive_gamma (e : BusEvent) (s : State) : (drive e s).gamma = s.gamma := rfl
@[simp] theorem drive_dither (e : BusEvent) (s : State) : (drive e s).dither = s.dither := rfl
@[simp] theorem drive_neg (e : BusEvent) (s : State) : (drive e s).neg = s.neg := rfl
@[simp] theorem drive_win (e : BusEvent) (s : State) : (drive e s).win = s.win := rfl
@[simp] theorem drive_winValid (e : BusEvent) (s : State) : (drive e s).winValid = s.winValid := rfl
@[simp] theorem drive_fbBase (e : BusEvent) (s : State) : (drive e s).fbBase = s.fbBase := rfl
@[simp] theorem drive_lastCode (e : BusEvent) (s : State) : (drive e s).lastCode = s.lastCode := rfl
@[simp] theorem drive_cfgErr (e : BusEvent) (s : State) : (drive e s).cfgErr = s.cfgErr := rfl
@[simp] theorem drive_lineCode (e : BusEvent) (s : State) : (drive e s).lineCode = s.lineCode := rfl
@[simp] theorem drive_errInfo (e : BusEvent) (s : State) : (drive e s).errInfo = s.errInfo := rfl
@[simp] theorem drive_firstErr (e : BusEvent) (s : State) : (drive e s).firstErr = s.firstErr := rfl
@[simp] theorem drive_plane (e : BusEvent) (s : State) : (drive e s).plane = s.plane := rfl
@[simp] theorem drive_lb0 (e : BusEvent) (s : State) : (drive e s).lb0 = s.lb0 := rfl
@[simp] theorem drive_lb1 (e : BusEvent) (s : State) : (drive e s).lb1 = s.lb1 := rfl
@[simp] theorem drive_bp (e : BusEvent) (s : State) : (drive e s).bp = s.bp := rfl
@[simp] theorem drive_lines (e : BusEvent) (s : State) : (drive e s).lines = applyEvent s.lines e := rfl
@[simp] theorem drive_trace (e : BusEvent) (s : State) : (drive e s).trace = s.trace ++ [e] := rfl
@[simp] theorem drive_seq (e : BusEvent) (s : State) : (drive e s).seq = s.seq := rfl
@[simp] theorem drive_dly (e : BusEvent) (s : State) : (drive e s).dly = dlyAfter s.cfg s.dly e := rfl
@[simp] theorem drive_mem (e : BusEvent) (s : State) : (drive e s).mem = s.mem := rfl
@[simp] theorem drive_cfg (e : BusEvent) (s : State) : (drive e s).cfg = s.cfg := rfl
@[simp] theorem drive_unordered (e : BusEvent) (s : State) : (drive e s).unordered = s.unordered := rfl
@[simp] theorem drive_inputs (e : BusEvent) (s : State) : (drive e s).inputs = s.inputs := rfl
@[simp] theorem drive_lineDraws (e : BusEvent) (s : State) : (drive e s).lineDraws = s.lineDraws := rfl
@[simp] theorem drive_drawCount (e : BusEvent) (s : State) : (drive e s).drawCount = s.drawCount := rfl
@[simp] theorem drive_flushCount (e : BusEvent) (s : State) : (drive e s).flushCount = s.flushCount := rfl
@[simp] theorem drive_workCount (e : BusEvent) (s : State) : (drive e s).workCount = s.workCount := rfl
@[simp] theorem drive_readLog (e : BusEvent) (s : State) : (drive e s).readLog = s.readLog := rfl

/-! ### `answer` -/

@[simp] theorem answer_gamma (v : Word) (s : State) : (answer v s).gamma = s.gamma := rfl
@[simp] theorem answer_dither (v : Word) (s : State) : (answer v s).dither = s.dither := rfl
@[simp] theorem answer_neg (v : Word) (s : State) : (answer v s).neg = s.neg := rfl
@[simp] theorem answer_win (v : Word) (s : State) : (answer v s).win = s.win := rfl
@[simp] theorem answer_winValid (v : Word) (s : State) : (answer v s).winValid = s.winValid := rfl
@[simp] theorem answer_fbBase (v : Word) (s : State) : (answer v s).fbBase = s.fbBase := rfl
@[simp] theorem answer_lastCode (v : Word) (s : State) : (answer v s).lastCode = s.lastCode := rfl
@[simp] theorem answer_cfgErr (v : Word) (s : State) : (answer v s).cfgErr = s.cfgErr := rfl
@[simp] theorem answer_lineCode (v : Word) (s : State) : (answer v s).lineCode = s.lineCode := rfl
@[simp] theorem answer_errInfo (v : Word) (s : State) : (answer v s).errInfo = s.errInfo := rfl
@[simp] theorem answer_firstErr (v : Word) (s : State) : (answer v s).firstErr = s.firstErr := rfl
@[simp] theorem answer_plane (v : Word) (s : State) : (answer v s).plane = s.plane := rfl
@[simp] theorem answer_lb0 (v : Word) (s : State) : (answer v s).lb0 = s.lb0 := rfl
@[simp] theorem answer_lb1 (v : Word) (s : State) : (answer v s).lb1 = s.lb1 := rfl
@[simp] theorem answer_bp (v : Word) (s : State) : (answer v s).bp = s.bp := rfl
@[simp] theorem answer_lines (v : Word) (s : State) : (answer v s).lines = s.lines := rfl
@[simp] theorem answer_trace (v : Word) (s : State) : (answer v s).trace = s.trace := rfl
@[simp] theorem answer_seq (v : Word) (s : State) : (answer v s).seq = s.seq := rfl
@[simp] theorem answer_dly (v : Word) (s : State) : (answer v s).dly = s.dly := rfl
@[simp] theorem answer_mem (v : Word) (s : State) : (answer v s).mem = s.mem := rfl
@[simp] theorem answer_cfg (v : Word) (s : State) : (answer v s).cfg = s.cfg := rfl
@[simp] theorem answer_unordered (v : Word) (s : State) : (answer v s).unordered = s.unordered := rfl
@[simp] theorem answer_inputs (v : Word) (s : State) : (answer v s).inputs = s.inputs := rfl
@[simp] theorem answer_lineDraws (v : Word) (s : State) : (answer v s).lineDraws = s.lineDraws := rfl
@[simp] theorem answer_drawCount (v : Word) (s : State) : (answer v s).drawCount = s.drawCount := rfl
@[simp] theorem answer_flushCount (v : Word) (s : State) : (answer v s).flushCount = s.flushCount := rfl
@[simp] theorem answer_workCount (v : Word) (s : State) : (answer v s).workCount = s.workCount := rfl
@[simp] theorem answer_readLog (v : Word) (s : State) : (answer v s).readLog = s.readLog ++ [v] := rfl

/-! ### `startOp` -/

@[simp] theorem startOp_gamma (s : State) : (startOp s).gamma = s.gamma := rfl
@[simp] theorem startOp_dither (s : State) : (startOp s).dither = s.dither := rfl
@[simp] theorem startOp_neg (s : State) : (startOp s).neg = s.neg := rfl
@[simp] theorem startOp_win (s : State) : (startOp s).win = s.win := rfl
@[simp] theorem startOp_winValid (s : State) : (startOp s).winValid = s.winValid := rfl
@[simp] theorem startOp_fbBase (s : State) : (startOp s).fbBase = s.fbBase := rfl
@[simp] theorem startOp_lastCode (s : State) : (startOp s).lastCode = s.lastCode := rfl
@[simp] theorem startOp_cfgErr (s : State) : (startOp s).cfgErr = s.cfgErr := rfl
@[simp] theorem startOp_lineCode (s : State) : (startOp s).lineCode = 0 := rfl
@[simp] theorem startOp_errInfo (s : State) : (startOp s).errInfo = ErrInfo.zero := rfl
@[simp] theorem startOp_firstErr (s : State) : (startOp s).firstErr = false := rfl
@[simp] theorem startOp_plane (s : State) : (startOp s).plane = s.plane := rfl
@[simp] theorem startOp_lb0 (s : State) : (startOp s).lb0 = s.lb0 := rfl
@[simp] theorem startOp_lb1 (s : State) : (startOp s).lb1 = s.lb1 := rfl
@[simp] theorem startOp_bp (s : State) : (startOp s).bp = s.bp := rfl
@[simp] theorem startOp_lines (s : State) : (startOp s).lines = s.lines := rfl
@[simp] theorem startOp_trace (s : State) : (startOp s).trace = s.trace := rfl
@[simp] theorem startOp_seq (s : State) : (startOp s).seq = s.seq := rfl
@[simp] theorem startOp_dly (s : State) : (startOp s).dly = s.dly := rfl
@[simp] theorem startOp_mem (s : State) : (startOp s).mem = s.mem := rfl
@[simp] theorem startOp_cfg (s : State) : (startOp s).cfg = s.cfg := rfl
@[simp] theorem startOp_unordered (s : State) : (startOp s).unordered = s.unordered := rfl
@[simp] theorem startOp_inputs (s : State) : (startOp s).inputs = s.inputs := rfl
@[simp] theorem startOp_lineDraws (s : State) : (startOp s).lineDraws = s.lineDraws := rfl
@[simp] theorem startOp_drawCount (s : State) : (startOp s).drawCount = s.drawCount := rfl
@[simp] theorem startOp_flushCount (s : State) : (startOp s).flushCount = s.flushCount := rfl
@[simp] theorem startOp_workCount (s : State) : (startOp s).workCount = s.workCount := rfl
@[simp] theorem startOp_readLog (s : State) : (startOp s).readLog = s.readLog := rfl

/-! ### `failWith` -/

@[simp] theorem failWith_gamma (c : ResultCode) (s : State) : (failWith c s).gamma = s.gamma := rfl
@[simp] theorem failWith_dither (c : ResultCode) (s : State) : (failWith c s).dither = s.dither := rfl
@[simp] theorem failWith_neg (c : ResultCode) (s : State) : (failWith c s).neg = s.neg := rfl
@[simp] theorem failWith_win (c : ResultCode) (s : State) : (failWith c s).win = s.win := rfl
@[simp] theorem failWith_winValid (c : ResultCode) (s : State) : (failWith c s).winValid = s.winValid := rfl
@[simp] theorem failWith_fbBase (c : ResultCode) (s : State) : (failWith c s).fbBase = s.fbBase := rfl
@[simp] theorem failWith_lastCode (c : ResultCode) (s : State) : (failWith c s).lastCode = c := rfl
@[simp] theorem failWith_cfgErr (c : ResultCode) (s : State) : (failWith c s).cfgErr = s.cfgErr := rfl
@[simp] theorem failWith_lineCode (c : ResultCode) (s : State) : (failWith c s).lineCode = s.lineCode := rfl
@[simp] theorem failWith_errInfo (c : ResultCode) (s : State) : (failWith c s).errInfo = s.errInfo := rfl
@[simp] theorem failWith_firstErr (c : ResultCode) (s : State) : (failWith c s).firstErr = s.firstErr := rfl
@[simp] theorem failWith_plane (c : ResultCode) (s : State) : (failWith c s).plane = s.plane := rfl
@[simp] theorem failWith_lb0 (c : ResultCode) (s : State) : (failWith c s).lb0 = s.lb0 := rfl
@[simp] theorem failWith_lb1 (c : ResultCode) (s : State) : (failWith c s).lb1 = s.lb1 := rfl
@[simp] theorem failWith_bp (c : ResultCode) (s : State) : (failWith c s).bp = s.bp := rfl
@[simp] theorem failWith_lines (c : ResultCode) (s : State) : (failWith c s).lines = s.lines := rfl
@[simp] theorem failWith_trace (c : ResultCode) (s : State) : (failWith c s).trace = s.trace := rfl
@[simp] theorem failWith_seq (c : ResultCode) (s : State) : (failWith c s).seq = s.seq := rfl
@[simp] theorem failWith_dly (c : ResultCode) (s : State) : (failWith c s).dly = s.dly := rfl
@[simp] theorem failWith_mem (c : ResultCode) (s : State) : (failWith c s).mem = s.mem := rfl
@[simp] theorem failWith_cfg (c : ResultCode) (s : State) : (failWith c s).cfg = s.cfg := rfl
@[simp] theorem failWith_unordered (c : ResultCode) (s : State) : (failWith c s).unordered = s.unordered := rfl
@[simp] theorem failWith_inputs (c : ResultCode) (s : State) : (failWith c s).inputs = s.inputs := rfl
@[simp] theorem failWith_lineDraws (c : ResultCode) (s : State) : (failWith c s).lineDraws = s.lineDraws := rfl
@[simp] theorem failWith_drawCount (c : ResultCode) (s : State) : (failWith c s).drawCount = s.drawCount := rfl
@[simp] theorem failWith_flushCount (c : ResultCode) (s : State) : (failWith c s).flushCount = s.flushCount := rfl
@[simp] theorem failWith_workCount (c : ResultCode) (s : State) : (failWith c s).workCount = s.workCount := rfl
@[simp] theorem failWith_readLog (c : ResultCode) (s : State) : (failWith c s).readLog = s.readLog := rfl

/-! ### `finishOp` -/

@[simp] theorem finishOp_gamma (s : State) : (finishOp s).gamma = s.gamma := rfl
@[simp] theorem finishOp_dither (s : State) : (finishOp s).dither = s.dither := rfl
@[simp] theorem finishOp_neg (s : State) : (finishOp s).neg = s.neg := rfl
@[simp] theorem finishOp_win (s : State) : (finishOp s).win = s.win := rfl
@[simp] theorem finishOp_winValid (s : State) : (finishOp s).winValid = s.winValid := rfl
@[simp] theorem finishOp_fbBase (s : State) : (finishOp s).fbBase = s.fbBase := rfl
@[simp] theorem finishOp_lastCode (s : State) : (finishOp s).lastCode = busResult s.firstErr := rfl
@[simp] theorem finishOp_cfgErr (s : State) : (finishOp s).cfgErr = s.cfgErr := rfl
@[simp] theorem finishOp_lineCode (s : State) : (finishOp s).lineCode = s.lineCode := rfl
@[simp] theorem finishOp_errInfo (s : State) : (finishOp s).errInfo = s.errInfo := rfl
@[simp] theorem finishOp_firstErr (s : State) : (finishOp s).firstErr = s.firstErr := rfl
@[simp] theorem finishOp_plane (s : State) : (finishOp s).plane = s.plane := rfl
@[simp] theorem finishOp_lb0 (s : State) : (finishOp s).lb0 = s.lb0 := rfl
@[simp] theorem finishOp_lb1 (s : State) : (finishOp s).lb1 = s.lb1 := rfl
@[simp] theorem finishOp_bp (s : State) : (finishOp s).bp = s.bp := rfl
@[simp] theorem finishOp_lines (s : State) : (finishOp s).lines = s.lines := rfl
@[simp] theorem finishOp_trace (s : State) : (finishOp s).trace = s.trace := rfl
@[simp] theorem finishOp_seq (s : State) : (finishOp s).seq = .idle := rfl
@[simp] theorem finishOp_dly (s : State) : (finishOp s).dly = s.dly := rfl
@[simp] theorem finishOp_mem (s : State) : (finishOp s).mem = s.mem := rfl
@[simp] theorem finishOp_cfg (s : State) : (finishOp s).cfg = s.cfg := rfl
@[simp] theorem finishOp_unordered (s : State) : (finishOp s).unordered = s.unordered := rfl
@[simp] theorem finishOp_inputs (s : State) : (finishOp s).inputs = s.inputs := rfl
@[simp] theorem finishOp_lineDraws (s : State) : (finishOp s).lineDraws = s.lineDraws := rfl
@[simp] theorem finishOp_drawCount (s : State) : (finishOp s).drawCount = s.drawCount := rfl
@[simp] theorem finishOp_flushCount (s : State) : (finishOp s).flushCount = s.flushCount := rfl
@[simp] theorem finishOp_workCount (s : State) : (finishOp s).workCount = s.workCount := rfl
@[simp] theorem finishOp_readLog (s : State) : (finishOp s).readLog = s.readLog := rfl

/-! ### `releaseWork` -/

@[simp] theorem releaseWork_gamma (s : State) : (releaseWork s).gamma = s.gamma := rfl
@[simp] theorem releaseWork_dither (s : State) : (releaseWork s).dither = s.dither := rfl
@[simp] theorem releaseWork_neg (s : State) : (releaseWork s).neg = s.neg := rfl
@[simp] theorem releaseWork_win (s : State) : (releaseWork s).win = s.win := rfl
@[simp] theorem releaseWork_winValid (s : State) : (releaseWork s).winValid = s.winValid := rfl
@[simp] theorem releaseWork_fbBase (s : State) : (releaseWork s).fbBase = s.fbBase := rfl
@[simp] theorem releaseWork_lastCode (s : State) : (releaseWork s).lastCode = s.lastCode := rfl
@[simp] theorem releaseWork_cfgErr (s : State) : (releaseWork s).cfgErr = s.cfgErr := rfl
@[simp] theorem releaseWork_lineCode (s : State) : (releaseWork s).lineCode = s.lineCode := rfl
@[simp] theorem releaseWork_errInfo (s : State) : (releaseWork s).errInfo = s.errInfo := rfl
@[simp] theorem releaseWork_firstErr (s : State) : (releaseWork s).firstErr = s.firstErr := rfl
@[simp] theorem releaseWork_plane (s : State) : (releaseWork s).plane = Config.freePlane s.workCount := rfl
@[simp] theorem releaseWork_lb0 (s : State) : (releaseWork s).lb0 = Config.freeRow s.workCount 0 := rfl
@[simp] theorem releaseWork_lb1 (s : State) : (releaseWork s).lb1 = Config.freeRow s.workCount 1 := rfl
@[simp] theorem releaseWork_bp (s : State) : (releaseWork s).bp = Config.freeBits s.workCount := rfl
@[simp] theorem releaseWork_lines (s : State) : (releaseWork s).lines = s.lines := rfl
@[simp] theorem releaseWork_trace (s : State) : (releaseWork s).trace = s.trace := rfl
@[simp] theorem releaseWork_seq (s : State) : (releaseWork s).seq = s.seq := rfl
@[simp] theorem releaseWork_dly (s : State) : (releaseWork s).dly = s.dly := rfl
@[simp] theorem releaseWork_mem (s : State) : (releaseWork s).mem = s.mem := rfl
@[simp] theorem releaseWork_cfg (s : State) : (releaseWork s).cfg = s.cfg := rfl
@[simp] theorem releaseWork_unordered (s : State) : (releaseWork s).unordered = s.unordered := rfl
@[simp] theorem releaseWork_inputs (s : State) : (releaseWork s).inputs = s.inputs := rfl
@[simp] theorem releaseWork_lineDraws (s : State) : (releaseWork s).lineDraws = s.lineDraws := rfl
@[simp] theorem releaseWork_drawCount (s : State) : (releaseWork s).drawCount = s.drawCount := rfl
@[simp] theorem releaseWork_flushCount (s : State) : (releaseWork s).flushCount = s.flushCount := rfl
@[simp] theorem releaseWork_workCount (s : State) : (releaseWork s).workCount = s.workCount + 1 := rfl
@[simp] theorem releaseWork_readLog (s : State) : (releaseWork s).readLog = s.readLog := rfl

/-! ### `hostStore` -/

@[simp] theorem hostStore_gamma (a : Word) (b : Byte) (s : State) : (hostStore a b s).gamma = s.gamma := rfl
@[simp] theorem hostStore_dither (a : Word) (b : Byte) (s : State) : (hostStore a b s).dither = s.dither := rfl
@[simp] theorem hostStore_neg (a : Word) (b : Byte) (s : State) : (hostStore a b s).neg = s.neg := rfl
@[simp] theorem hostStore_win (a : Word) (b : Byte) (s : State) : (hostStore a b s).win = s.win := rfl
@[simp] theorem hostStore_winValid (a : Word) (b : Byte) (s : State) : (hostStore a b s).winValid = s.winValid := rfl
@[simp] theorem hostStore_fbBase (a : Word) (b : Byte) (s : State) : (hostStore a b s).fbBase = s.fbBase := rfl
@[simp] theorem hostStore_lastCode (a : Word) (b : Byte) (s : State) : (hostStore a b s).lastCode = s.lastCode := rfl
@[simp] theorem hostStore_cfgErr (a : Word) (b : Byte) (s : State) : (hostStore a b s).cfgErr = s.cfgErr := rfl
@[simp] theorem hostStore_lineCode (a : Word) (b : Byte) (s : State) : (hostStore a b s).lineCode = s.lineCode := rfl
@[simp] theorem hostStore_errInfo (a : Word) (b : Byte) (s : State) : (hostStore a b s).errInfo = s.errInfo := rfl
@[simp] theorem hostStore_firstErr (a : Word) (b : Byte) (s : State) : (hostStore a b s).firstErr = s.firstErr := rfl
@[simp] theorem hostStore_plane (a : Word) (b : Byte) (s : State) : (hostStore a b s).plane = s.plane := rfl
@[simp] theorem hostStore_lb0 (a : Word) (b : Byte) (s : State) : (hostStore a b s).lb0 = s.lb0 := rfl
@[simp] theorem hostStore_lb1 (a : Word) (b : Byte) (s : State) : (hostStore a b s).lb1 = s.lb1 := rfl
@[simp] theorem hostStore_bp (a : Word) (b : Byte) (s : State) : (hostStore a b s).bp = s.bp := rfl
@[simp] theorem hostStore_lines (a : Word) (b : Byte) (s : State) : (hostStore a b s).lines = s.lines := rfl
@[simp] theorem hostStore_trace (a : Word) (b : Byte) (s : State) : (hostStore a b s).trace = s.trace := rfl
@[simp] theorem hostStore_seq (a : Word) (b : Byte) (s : State) : (hostStore a b s).seq = s.seq := rfl
@[simp] theorem hostStore_dly (a : Word) (b : Byte) (s : State) : (hostStore a b s).dly = s.dly := rfl
@[simp] theorem hostStore_mem (a : Word) (b : Byte) (s : State) : (hostStore a b s).mem = s.mem := rfl
@[simp] theorem hostStore_cfg (a : Word) (b : Byte) (s : State) : (hostStore a b s).cfg = s.cfg := rfl
@[simp] theorem hostStore_unordered (a : Word) (b : Byte) (s : State) : (hostStore a b s).unordered = s.unordered ++ [(a.toNat, b)] := rfl
@[simp] theorem hostStore_inputs (a : Word) (b : Byte) (s : State) : (hostStore a b s).inputs = s.inputs := rfl
@[simp] theorem hostStore_lineDraws (a : Word) (b : Byte) (s : State) : (hostStore a b s).lineDraws = s.lineDraws := rfl
@[simp] theorem hostStore_drawCount (a : Word) (b : Byte) (s : State) : (hostStore a b s).drawCount = s.drawCount := rfl
@[simp] theorem hostStore_flushCount (a : Word) (b : Byte) (s : State) : (hostStore a b s).flushCount = s.flushCount := rfl
@[simp] theorem hostStore_workCount (a : Word) (b : Byte) (s : State) : (hostStore a b s).workCount = s.workCount := rfl
@[simp] theorem hostStore_readLog (a : Word) (b : Byte) (s : State) : (hostStore a b s).readLog = s.readLog := rfl

/-! ### `hostFence` -/

@[simp] theorem hostFence_gamma (s : State) : (hostFence s).gamma = s.gamma := rfl
@[simp] theorem hostFence_dither (s : State) : (hostFence s).dither = s.dither := rfl
@[simp] theorem hostFence_neg (s : State) : (hostFence s).neg = s.neg := rfl
@[simp] theorem hostFence_win (s : State) : (hostFence s).win = s.win := rfl
@[simp] theorem hostFence_winValid (s : State) : (hostFence s).winValid = s.winValid := rfl
@[simp] theorem hostFence_fbBase (s : State) : (hostFence s).fbBase = s.fbBase := rfl
@[simp] theorem hostFence_lastCode (s : State) : (hostFence s).lastCode = s.lastCode := rfl
@[simp] theorem hostFence_cfgErr (s : State) : (hostFence s).cfgErr = s.cfgErr := rfl
@[simp] theorem hostFence_lineCode (s : State) : (hostFence s).lineCode = s.lineCode := rfl
@[simp] theorem hostFence_errInfo (s : State) : (hostFence s).errInfo = s.errInfo := rfl
@[simp] theorem hostFence_firstErr (s : State) : (hostFence s).firstErr = s.firstErr := rfl
@[simp] theorem hostFence_plane (s : State) : (hostFence s).plane = s.plane := rfl
@[simp] theorem hostFence_lb0 (s : State) : (hostFence s).lb0 = s.lb0 := rfl
@[simp] theorem hostFence_lb1 (s : State) : (hostFence s).lb1 = s.lb1 := rfl
@[simp] theorem hostFence_bp (s : State) : (hostFence s).bp = s.bp := rfl
@[simp] theorem hostFence_lines (s : State) : (hostFence s).lines = s.lines := rfl
@[simp] theorem hostFence_trace (s : State) : (hostFence s).trace = s.trace := rfl
@[simp] theorem hostFence_seq (s : State) : (hostFence s).seq = s.seq := rfl
@[simp] theorem hostFence_dly (s : State) : (hostFence s).dly = s.dly := rfl
@[simp] theorem hostFence_mem (s : State) : (hostFence s).mem = s.unordered.foldl (fun m c => memSet m c.1 c.2) s.mem := rfl
@[simp] theorem hostFence_cfg (s : State) : (hostFence s).cfg = s.cfg := rfl
@[simp] theorem hostFence_unordered (s : State) : (hostFence s).unordered = [] := rfl
@[simp] theorem hostFence_inputs (s : State) : (hostFence s).inputs = s.inputs := rfl
@[simp] theorem hostFence_lineDraws (s : State) : (hostFence s).lineDraws = s.lineDraws := rfl
@[simp] theorem hostFence_drawCount (s : State) : (hostFence s).drawCount = s.drawCount := rfl
@[simp] theorem hostFence_flushCount (s : State) : (hostFence s).flushCount = s.flushCount := rfl
@[simp] theorem hostFence_workCount (s : State) : (hostFence s).workCount = s.workCount := rfl
@[simp] theorem hostFence_readLog (s : State) : (hostFence s).readLog = s.readLog := rfl

/-! ### `foundConfig` -/

@[simp] theorem foundConfig_width (l : Bool) (p : Params) : (foundConfig l p).width = p.width := rfl
@[simp] theorem foundConfig_height (l : Bool) (p : Params) : (foundConfig l p).height = p.height := rfl
@[simp] theorem foundConfig_panelCols (l : Bool) (p : Params) : (foundConfig l p).panelCols = p.panelCols := rfl
@[simp] theorem foundConfig_panelPages (l : Bool) (p : Params) : (foundConfig l p).panelPages = p.panelPages := rfl
@[simp] theorem foundConfig_pixFmt (l : Bool) (p : Params) : (foundConfig l p).pixFmt = p.pixFmt := rfl
@[simp] theorem foundConfig_wr (l : Bool) (p : Params) : (foundConfig l p).wr = p.wr := rfl
@[simp] theorem foundConfig_wg (l : Bool) (p : Params) : (foundConfig l p).wg = p.wg := rfl
@[simp] theorem foundConfig_wb (l : Bool) (p : Params) : (foundConfig l p).wb = p.wb := rfl
@[simp] theorem foundConfig_wden (l : Bool) (p : Params) : (foundConfig l p).wden = p.wden := rfl
@[simp] theorem foundConfig_cmdDisplayOn (l : Bool) (p : Params) : (foundConfig l p).cmdDisplayOn = p.cmdDisplayOn := rfl
@[simp] theorem foundConfig_colCmd (l : Bool) (p : Params) : (foundConfig l p).colCmd = p.colCmd := rfl
@[simp] theorem foundConfig_pageCmd (l : Bool) (p : Params) : (foundConfig l p).pageCmd = p.pageCmd := rfl
@[simp] theorem foundConfig_clkHz (l : Bool) (p : Params) : (foundConfig l p).clkHz = p.clkHz := rfl
@[simp] theorem foundConfig_tSuCyc (l : Bool) (p : Params) : (foundConfig l p).tSuCyc = p.tSuCyc := rfl
@[simp] theorem foundConfig_csActiveHigh (l : Bool) (p : Params) : (foundConfig l p).csActiveHigh = p.csActiveHigh := rfl
@[simp] theorem foundConfig_modeCmdLevel (l : Bool) (p : Params) : (foundConfig l p).modeCmdLevel = p.modeCmdLevel := rfl
@[simp] theorem foundConfig_rwWriteLevel (l : Bool) (p : Params) : (foundConfig l p).rwWriteLevel = p.rwWriteLevel := rfl
@[simp] theorem foundConfig_eActiveHigh (l : Bool) (p : Params) : (foundConfig l p).eActiveHigh = p.eActiveHigh := rfl
@[simp] theorem foundConfig_linesOk (l : Bool) (p : Params) : (foundConfig l p).linesOk = l := rfl
@[simp] theorem foundConfig_regBase (l : Bool) (p : Params) : (foundConfig l p).regBase = p.regBase := rfl
@[simp] theorem foundConfig_srcHoles (l : Bool) (p : Params) : (foundConfig l p).srcHoles = p.srcHoles := rfl

/-! ### `hwReset` -/

@[simp] theorem hwReset_gamma (l : Bool) (s : State) : (hwReset l s).gamma = s.gamma := rfl
@[simp] theorem hwReset_dither (l : Bool) (s : State) : (hwReset l s).dither = true := rfl
@[simp] theorem hwReset_neg (l : Bool) (s : State) : (hwReset l s).neg = false := rfl
@[simp] theorem hwReset_win (l : Bool) (s : State) : (hwReset l s).win = ⟨0, 0, 0, 0⟩ := rfl
@[simp] theorem hwReset_winValid (l : Bool) (s : State) : (hwReset l s).winValid = false := rfl
@[simp] theorem hwReset_fbBase (l : Bool) (s : State) : (hwReset l s).fbBase = 0 := rfl
@[simp] theorem hwReset_lastCode (l : Bool) (s : State) : (hwReset l s).lastCode = .ok := rfl
@[simp] theorem hwReset_cfgErr (l : Bool) (s : State) : (hwReset l s).cfgErr = cfgError (foundConfig l s.cfg) := rfl
@[simp] theorem hwReset_lineCode (l : Bool) (s : State) : (hwReset l s).lineCode = 0 := rfl
@[simp] theorem hwReset_errInfo (l : Bool) (s : State) : (hwReset l s).errInfo = ErrInfo.zero := rfl
@[simp] theorem hwReset_firstErr (l : Bool) (s : State) : (hwReset l s).firstErr = false := rfl
@[simp] theorem hwReset_lines (l : Bool) (s : State) : (hwReset l s).lines = Lines.atReset := rfl
@[simp] theorem hwReset_trace (l : Bool) (s : State) : (hwReset l s).trace = s.trace ++ resetEvents := rfl
@[simp] theorem hwReset_seq (l : Bool) (s : State) : (hwReset l s).seq = .idle := rfl
@[simp] theorem hwReset_dly (l : Bool) (s : State) : (hwReset l s).dly = 0 := rfl
@[simp] theorem hwReset_mem (l : Bool) (s : State) : (hwReset l s).mem = s.mem := rfl
@[simp] theorem hwReset_cfg (l : Bool) (s : State) : (hwReset l s).cfg = foundConfig l s.cfg := rfl
@[simp] theorem hwReset_unordered (l : Bool) (s : State) : (hwReset l s).unordered = s.unordered := rfl
@[simp] theorem hwReset_inputs (l : Bool) (s : State) : (hwReset l s).inputs = s.inputs := rfl
@[simp] theorem hwReset_lineDraws (l : Bool) (s : State) : (hwReset l s).lineDraws = s.lineDraws := rfl
@[simp] theorem hwReset_drawCount (l : Bool) (s : State) : (hwReset l s).drawCount = s.drawCount := rfl
@[simp] theorem hwReset_flushCount (l : Bool) (s : State) : (hwReset l s).flushCount = s.flushCount := rfl
@[simp] theorem hwReset_workCount (l : Bool) (s : State) : (hwReset l s).workCount = s.workCount + 1 := rfl
@[simp] theorem hwReset_readLog (l : Bool) (s : State) : (hwReset l s).readLog = s.readLog := rfl

/-! ### `takeDraw` and `raiseBusWrite` -/

@[simp] theorem takeDraw_gamma (s : State) : (takeDraw s).gamma = s.gamma := by
  unfold takeDraw; split <;> rfl
@[simp] theorem takeDraw_dither (s : State) : (takeDraw s).dither = s.dither := by
  unfold takeDraw; split <;> rfl
@[simp] theorem takeDraw_neg (s : State) : (takeDraw s).neg = s.neg := by
  unfold takeDraw; split <;> rfl
@[simp] theorem takeDraw_win (s : State) : (takeDraw s).win = s.win := by
  unfold takeDraw; split <;> rfl
@[simp] theorem takeDraw_winValid (s : State) : (takeDraw s).winValid = s.winValid := by
  unfold takeDraw; split <;> rfl
@[simp] theorem takeDraw_fbBase (s : State) : (takeDraw s).fbBase = s.fbBase := by
  unfold takeDraw; split <;> rfl
@[simp] theorem takeDraw_lastCode (s : State) : (takeDraw s).lastCode = s.lastCode := by
  unfold takeDraw; split <;> rfl
@[simp] theorem takeDraw_cfgErr (s : State) : (takeDraw s).cfgErr = s.cfgErr := by
  unfold takeDraw; split <;> rfl
@[simp] theorem takeDraw_lineCode (s : State) : (takeDraw s).lineCode = s.lineCode := by
  unfold takeDraw; split <;> rfl
@[simp] theorem takeDraw_errInfo (s : State) : (takeDraw s).errInfo = s.errInfo := by
  unfold takeDraw; split <;> rfl
@[simp] theorem takeDraw_firstErr (s : State) : (takeDraw s).firstErr = s.firstErr := by
  unfold takeDraw; split <;> rfl
@[simp] theorem takeDraw_plane (s : State) : (takeDraw s).plane = s.plane := by
  unfold takeDraw; split <;> rfl
@[simp] theorem takeDraw_lb0 (s : State) : (takeDraw s).lb0 = s.lb0 := by
  unfold takeDraw; split <;> rfl
@[simp] theorem takeDraw_lb1 (s : State) : (takeDraw s).lb1 = s.lb1 := by
  unfold takeDraw; split <;> rfl
@[simp] theorem takeDraw_bp (s : State) : (takeDraw s).bp = s.bp := by
  unfold takeDraw; split <;> rfl
@[simp] theorem takeDraw_lines (s : State) : (takeDraw s).lines = s.lines := by
  unfold takeDraw; split <;> rfl
@[simp] theorem takeDraw_trace (s : State) : (takeDraw s).trace = s.trace := by
  unfold takeDraw; split <;> rfl
@[simp] theorem takeDraw_seq (s : State) : (takeDraw s).seq = s.seq := by
  unfold takeDraw; split <;> rfl
@[simp] theorem takeDraw_dly (s : State) : (takeDraw s).dly = s.dly := by
  unfold takeDraw; split <;> rfl
@[simp] theorem takeDraw_mem (s : State) : (takeDraw s).mem = s.mem := by
  unfold takeDraw; split <;> rfl
@[simp] theorem takeDraw_cfg (s : State) : (takeDraw s).cfg = s.cfg := by
  unfold takeDraw; split <;> rfl
@[simp] theorem takeDraw_unordered (s : State) : (takeDraw s).unordered = s.unordered := by
  unfold takeDraw; split <;> rfl
@[simp] theorem takeDraw_inputs (s : State) : (takeDraw s).inputs = s.inputs := by
  unfold takeDraw; split <;> rfl
@[simp] theorem takeDraw_flushCount (s : State) : (takeDraw s).flushCount = s.flushCount := by
  unfold takeDraw; split <;> rfl
@[simp] theorem takeDraw_workCount (s : State) : (takeDraw s).workCount = s.workCount := by
  unfold takeDraw; split <;> rfl
@[simp] theorem takeDraw_readLog (s : State) : (takeDraw s).readLog = s.readLog := by
  unfold takeDraw; split <;> rfl
@[simp] theorem raiseBusWrite_gamma (c : ByteCtx) (v : Byte) (s : State) : (raiseBusWrite c v s).gamma = s.gamma := by
  unfold raiseBusWrite; split <;> rfl
@[simp] theorem raiseBusWrite_dither (c : ByteCtx) (v : Byte) (s : State) : (raiseBusWrite c v s).dither = s.dither := by
  unfold raiseBusWrite; split <;> rfl
@[simp] theorem raiseBusWrite_neg (c : ByteCtx) (v : Byte) (s : State) : (raiseBusWrite c v s).neg = s.neg := by
  unfold raiseBusWrite; split <;> rfl
@[simp] theorem raiseBusWrite_win (c : ByteCtx) (v : Byte) (s : State) : (raiseBusWrite c v s).win = s.win := by
  unfold raiseBusWrite; split <;> rfl
@[simp] theorem raiseBusWrite_winValid (c : ByteCtx) (v : Byte) (s : State) : (raiseBusWrite c v s).winValid = s.winValid := by
  unfold raiseBusWrite; split <;> rfl
@[simp] theorem raiseBusWrite_fbBase (c : ByteCtx) (v : Byte) (s : State) : (raiseBusWrite c v s).fbBase = s.fbBase := by
  unfold raiseBusWrite; split <;> rfl
@[simp] theorem raiseBusWrite_lastCode (c : ByteCtx) (v : Byte) (s : State) : (raiseBusWrite c v s).lastCode = s.lastCode := by
  unfold raiseBusWrite; split <;> rfl
@[simp] theorem raiseBusWrite_cfgErr (c : ByteCtx) (v : Byte) (s : State) : (raiseBusWrite c v s).cfgErr = s.cfgErr := by
  unfold raiseBusWrite; split <;> rfl
@[simp] theorem raiseBusWrite_plane (c : ByteCtx) (v : Byte) (s : State) : (raiseBusWrite c v s).plane = s.plane := by
  unfold raiseBusWrite; split <;> rfl
@[simp] theorem raiseBusWrite_lb0 (c : ByteCtx) (v : Byte) (s : State) : (raiseBusWrite c v s).lb0 = s.lb0 := by
  unfold raiseBusWrite; split <;> rfl
@[simp] theorem raiseBusWrite_lb1 (c : ByteCtx) (v : Byte) (s : State) : (raiseBusWrite c v s).lb1 = s.lb1 := by
  unfold raiseBusWrite; split <;> rfl
@[simp] theorem raiseBusWrite_bp (c : ByteCtx) (v : Byte) (s : State) : (raiseBusWrite c v s).bp = s.bp := by
  unfold raiseBusWrite; split <;> rfl
@[simp] theorem raiseBusWrite_lines (c : ByteCtx) (v : Byte) (s : State) : (raiseBusWrite c v s).lines = s.lines := by
  unfold raiseBusWrite; split <;> rfl
@[simp] theorem raiseBusWrite_trace (c : ByteCtx) (v : Byte) (s : State) : (raiseBusWrite c v s).trace = s.trace := by
  unfold raiseBusWrite; split <;> rfl
@[simp] theorem raiseBusWrite_seq (c : ByteCtx) (v : Byte) (s : State) : (raiseBusWrite c v s).seq = s.seq := by
  unfold raiseBusWrite; split <;> rfl
@[simp] theorem raiseBusWrite_dly (c : ByteCtx) (v : Byte) (s : State) : (raiseBusWrite c v s).dly = s.dly := by
  unfold raiseBusWrite; split <;> rfl
@[simp] theorem raiseBusWrite_mem (c : ByteCtx) (v : Byte) (s : State) : (raiseBusWrite c v s).mem = s.mem := by
  unfold raiseBusWrite; split <;> rfl
@[simp] theorem raiseBusWrite_cfg (c : ByteCtx) (v : Byte) (s : State) : (raiseBusWrite c v s).cfg = s.cfg := by
  unfold raiseBusWrite; split <;> rfl
@[simp] theorem raiseBusWrite_unordered (c : ByteCtx) (v : Byte) (s : State) : (raiseBusWrite c v s).unordered = s.unordered := by
  unfold raiseBusWrite; split <;> rfl
@[simp] theorem raiseBusWrite_inputs (c : ByteCtx) (v : Byte) (s : State) : (raiseBusWrite c v s).inputs = s.inputs := by
  unfold raiseBusWrite; split <;> rfl
@[simp] theorem raiseBusWrite_lineDraws (c : ByteCtx) (v : Byte) (s : State) : (raiseBusWrite c v s).lineDraws = s.lineDraws := by
  unfold raiseBusWrite; split <;> rfl
@[simp] theorem raiseBusWrite_drawCount (c : ByteCtx) (v : Byte) (s : State) : (raiseBusWrite c v s).drawCount = s.drawCount := by
  unfold raiseBusWrite; split <;> rfl
@[simp] theorem raiseBusWrite_flushCount (c : ByteCtx) (v : Byte) (s : State) : (raiseBusWrite c v s).flushCount = s.flushCount := by
  unfold raiseBusWrite; split <;> rfl
@[simp] theorem raiseBusWrite_workCount (c : ByteCtx) (v : Byte) (s : State) : (raiseBusWrite c v s).workCount = s.workCount := by
  unfold raiseBusWrite; split <;> rfl
@[simp] theorem raiseBusWrite_readLog (c : ByteCtx) (v : Byte) (s : State) : (raiseBusWrite c v s).readLog = s.readLog := by
  unfold raiseBusWrite; split <;> rfl

/-- After a `raise`, an error is recorded. -/
@[simp] theorem raiseBusWrite_firstErr (c : ByteCtx) (v : Byte) (s : State) : (raiseBusWrite c v s).firstErr = true := by
  unfold raiseBusWrite; split
  · assumption
  · rfl

end Sys2Proof.Machine
end

