-- ==== Sys2Proof/Laws/Bus.lean ====
section
/-! SUPPORT. What the bus operations can do, said once: `OnlyBus s t` (nothing but the bus, the sequencer, DLY, the error
record and the line layer's answers changed) and `Drove s t es` (exactly the events `es` were appended and the lines are
those after them), each with one lemma per operation. -/

namespace Sys2Proof.Machine

open Sys2Proof

/-- Only the fields a bus operation may write differ. -/
def OnlyBus (s t : State) : Prop :=
  ∃ lines trace seq dly firstErr lineCode errInfo lineDraws drawCount,
    t = { s with lines := lines, trace := trace, seq := seq, dly := dly, firstErr := firstErr, lineCode := lineCode,
                 errInfo := errInfo, lineDraws := lineDraws, drawCount := drawCount }

theorem OnlyBus.refl (s : State) : OnlyBus s s :=
  ⟨s.lines, s.trace, s.seq, s.dly, s.firstErr, s.lineCode, s.errInfo, s.lineDraws, s.drawCount, rfl⟩

theorem OnlyBus.trans {s t u : State} (h : OnlyBus s t) (k : OnlyBus t u) : OnlyBus s u := by
  obtain ⟨l, tr, q, d, f, c, e, ld, dc, rfl⟩ := h
  obtain ⟨l', tr', q', d', f', c', e', ld', dc', rfl⟩ := k
  exact ⟨l', tr', q', d', f', c', e', ld', dc', rfl⟩

theorem OnlyBus.seq {s t : State} (h : OnlyBus s t) (q : Seq) : OnlyBus s { t with seq := q } := by
  obtain ⟨l, tr, q', d, f, c, e, ld, dc, rfl⟩ := h
  exact ⟨l, tr, q, d, f, c, e, ld, dc, rfl⟩

theorem drive_onlyBus (e : BusEvent) (s : State) : OnlyBus s (drive e s) :=
  ⟨_, _, s.seq, _, s.firstErr, s.lineCode, s.errInfo, s.lineDraws, s.drawCount, rfl⟩

theorem driveAll_onlyBus (es : List BusEvent) (s : State) : OnlyBus s (driveAll es s) := by
  induction es generalizing s with
  | nil => exact OnlyBus.refl s
  | cons e es ih => exact (drive_onlyBus e s).trans (ih (drive e s))

theorem takeDraw_onlyBus (s : State) : OnlyBus s (takeDraw s) := by
  unfold takeDraw
  split
  · exact ⟨s.lines, s.trace, s.seq, s.dly, s.firstErr, s.lineCode, s.errInfo, _, s.drawCount, rfl⟩
  · exact ⟨s.lines, s.trace, s.seq, s.dly, s.firstErr, s.lineCode, s.errInfo, s.lineDraws, _, rfl⟩

theorem raiseBusWrite_onlyBus (c : ByteCtx) (v : Byte) (s : State) : OnlyBus s (raiseBusWrite c v s) := by
  unfold raiseBusWrite
  split
  · exact OnlyBus.refl s
  · exact ⟨s.lines, s.trace, s.seq, s.dly, _, _, _, s.lineDraws, s.drawCount, rfl⟩

theorem chipSelect_onlyBus (h : Panel) (s : State) : OnlyBus s (chipSelect h s) :=
  (drive_onlyBus _ _).trans (drive_onlyBus _ _)

theorem deselectAll_onlyBus (s : State) : OnlyBus s (deselectAll s) :=
  (drive_onlyBus _ _).trans (drive_onlyBus _ _)

theorem setMode_onlyBus (m : BusMode) (s : State) : OnlyBus s (setMode m s) := drive_onlyBus _ _

theorem emit_onlyBus (b : Byte) (s : State) : OnlyBus s (emit b s) :=
  (takeDraw_onlyBus s).trans (driveAll_onlyBus _ _)

theorem emitByte_onlyBus (c : ByteCtx) (b : Byte) (s : State) : OnlyBus s (emitByte c b s) := by
  unfold emitByte
  split
  · exact emit_onlyBus b s
  · exact (emit_onlyBus b s).trans (raiseBusWrite_onlyBus _ _ _)

theorem sendBytes_onlyBus (h : Panel) (page n k : Nat) (bs : List Byte) (s : State) :
    OnlyBus s (sendBytes h page n k bs s).2 := by
  induction bs generalizing k s with
  | nil => exact OnlyBus.refl s
  | cons b bs ih =>
    have h1 : OnlyBus s (emitByte (transferCtx h page n k) b { s with seq := .emit page h k }) :=
      ((OnlyBus.refl s).seq _).trans (emitByte_onlyBus _ _ _)
    unfold sendBytes
    dsimp only
    split
    · exact h1.trans (ih _ _)
    · exact h1

theorem transfer_onlyBus (r : PageRecord) (s : State) : OnlyBus s (transfer r s).2 := by
  have h1 : OnlyBus s (sendCommands r s).2 :=
    ((chipSelect_onlyBus _ s).trans (setMode_onlyBus _ _)).trans (sendBytes_onlyBus _ _ _ _ _ _)
  unfold transfer
  split
  · rename_i s1 h
    rw [h] at h1
    exact (h1.trans (setMode_onlyBus _ _)).trans (sendBytes_onlyBus _ _ _ _ _ _)
  · rename_i s1 h
    rw [h] at h1
    exact h1

theorem transfers_onlyBus (rs : List PageRecord) (s : State) :
    OnlyBus s (rs.foldl (fun s r => (transfer r s).2) s) := by
  induction rs generalizing s with
  | nil => exact OnlyBus.refl s
  | cons r rs ih => exact (transfer_onlyBus r s).trans (ih _)

theorem rowEnd_onlyBus (p : Nat) (s : State) : OnlyBus s (rowEnd p s) :=
  ((OnlyBus.refl s).seq _).trans (deselectAll_onlyBus _)

theorem emitPage_onlyBus (s : State) (p : Nat) : OnlyBus s (emitPage s p) :=
  (transfers_onlyBus _ s).trans (rowEnd_onlyBus p _)

theorem emitPages_onlyBus (ps : List Nat) (s : State) : OnlyBus s (ps.foldl emitPage s) := by
  induction ps generalizing s with
  | nil => exact OnlyBus.refl s
  | cons p ps ih => exact (emitPage_onlyBus s p).trans (ih _)

theorem emitPhase_onlyBus (s : State) : OnlyBus s (emitPhase s) := emitPages_onlyBus _ s

theorem rawTransfer_onlyBus (h : Panel) (m : BusMode) (b : Byte) (s : State) : OnlyBus s (rawTransfer h m b s) :=
  (((((OnlyBus.refl s).seq _).trans (chipSelect_onlyBus h _)).trans (setMode_onlyBus m _)).trans
    ((emitByte_onlyBus _ b _).trans (deselectAll_onlyBus _))).seq _

/-! ### The events and the lines -/

/-- Exactly `es` was appended to the trace, and the lines are those after it. -/
def Drove (s t : State) (es : List BusEvent) : Prop :=
  t.trace = s.trace ++ es ∧ t.lines = linesAfter s.lines es

theorem linesAfter_append (l : Lines) (es fs : List BusEvent) :
    linesAfter l (es ++ fs) = linesAfter (linesAfter l es) fs := List.foldl_append

theorem Drove.trans {s t u : State} {es fs : List BusEvent} (h : Drove s t es) (k : Drove t u fs) :
    Drove s u (es ++ fs) := by
  refine ⟨?_, ?_⟩
  · rw [k.1, h.1, List.append_assoc]
  · rw [k.2, h.2, linesAfter_append]

theorem Drove.of_same {s t : State} (ht : t.trace = s.trace) (hl : t.lines = s.lines) : Drove s t [] := by
  refine ⟨?_, ?_⟩
  · rw [ht, List.append_nil]
  · rw [hl]; rfl

theorem drive_drove (e : BusEvent) (s : State) : Drove s (drive e s) [e] := ⟨rfl, rfl⟩

theorem driveAll_drove (es : List BusEvent) (s : State) : Drove s (driveAll es s) es := by
  induction es generalizing s with
  | nil => exact Drove.of_same rfl rfl
  | cons e es ih => exact (drive_drove e s).trans (ih (drive e s))

theorem takeDraw_drove (s : State) : Drove s (takeDraw s) [] := Drove.of_same (by simp) (by simp)

theorem raiseBusWrite_drove (c : ByteCtx) (v : Byte) (s : State) : Drove s (raiseBusWrite c v s) [] :=
  Drove.of_same (by simp) (by simp)

theorem chipSelect_drove (h : Panel) (s : State) :
    Drove s (chipSelect h s) [.cs (otherPanel h) .deasserted, .cs h .asserted] :=
  (drive_drove _ s).trans (drive_drove _ _)

theorem deselectAll_drove (s : State) : Drove s (deselectAll s) [.cs .left .deasserted, .cs .right .deasserted] :=
  (drive_drove _ s).trans (drive_drove _ _)

theorem setMode_drove (m : BusMode) (s : State) : Drove s (setMode m s) [.mode m] := drive_drove _ s

theorem emit_drove (b : Byte) (s : State) : Drove s (emit b s) (byteEvents s.cfg b (nextDraw s)) :=
  (takeDraw_drove s).trans (driveAll_drove _ _)

theorem emitByte_drove (c : ByteCtx) (b : Byte) (s : State) :
    Drove s (emitByte c b s) (byteEvents s.cfg b (nextDraw s)) := by
  unfold emitByte
  split
  · exact emit_drove b s
  · rename_i v _
    have h := (emit_drove b s).trans (raiseBusWrite_drove c v (emit b s))
    rwa [List.append_nil] at h

end Sys2Proof.Machine
end

