-- ==== Sys2Proof/Laws/Memory.lean ====
section
/-! SUPPORT. The laws of the source memory: a store keeps the canonical form, a read after a store, and what a fence and a
MemRead can do. -/

namespace Sys2Proof.Machine

open Sys2Proof

theorem memGet_memSet_same (m : Memory) (k : Nat) (v : Byte) : memGet (memSet m k v) k = some v := by
  induction m with
  | nil => simp [memSet, memGet]
  | cons c m ih =>
    obtain ⟨a, b⟩ := c
    unfold memSet
    split_ifs with h1 h2
    · simp [memGet]
    · simp [memGet, h2]
    · simp [memGet, Ne.symm h2, ih]

theorem memGet_memSet_other (m : Memory) {k j : Nat} (v : Byte) (h : j ≠ k) :
    memGet (memSet m k v) j = memGet m j := by
  induction m with
  | nil => simp [memSet, memGet, Ne.symm h]
  | cons c m ih =>
    obtain ⟨a, b⟩ := c
    unfold memSet
    split_ifs with h1 h2
    · simp [memGet, Ne.symm h]
    · subst h2; simp [memGet, Ne.symm h]
    · simp only [memGet, ih]

theorem memSet_wfFrom (m : Memory) (k : Nat) (v : Byte) (hk : k < 2 ^ 32) :
    ∀ lo, lo ≤ k → Memory.wfFrom lo m = true → Memory.wfFrom lo (memSet m k v) = true := by
  induction m with
  | nil =>
    intro lo hlo _
    simp only [memSet, Memory.wfFrom, Bool.and_eq_true, decide_eq_true_eq]
    exact ⟨⟨hlo, hk⟩, trivial⟩
  | cons c m ih =>
    obtain ⟨a, b⟩ := c
    intro lo hlo h
    simp only [Memory.wfFrom, Bool.and_eq_true, decide_eq_true_eq] at h
    unfold memSet
    split_ifs with h1 h2
    · simp only [Memory.wfFrom, Bool.and_eq_true, decide_eq_true_eq]
      exact ⟨⟨hlo, hk⟩, ⟨by omega, h.1.2⟩, h.2⟩
    · subst h2
      simp only [Memory.wfFrom, Bool.and_eq_true, decide_eq_true_eq]
      exact h
    · simp only [Memory.wfFrom, Bool.and_eq_true, decide_eq_true_eq]
      exact ⟨h.1, ih (a + 1) (by omega) h.2⟩

/-- A store keeps the canonical form. -/
theorem memSet_wf (m : Memory) (k : Nat) (v : Byte) (hk : k < 2 ^ 32) (h : Memory.wf m = true) :
    Memory.wf (memSet m k v) = true :=
  memSet_wfFrom m k v hk 0 (Nat.zero_le k) h

/-- The fence's stores keep the canonical form. -/
theorem memSets_wf (cs : List Host.Cell) (hcs : ∀ c ∈ cs, c.1 < 2 ^ 32) (m : Memory) (h : Memory.wf m = true) :
    Memory.wf (cs.foldl (fun m c => memSet m c.1 c.2) m) = true := by
  induction cs generalizing m with
  | nil => exact h
  | cons c cs ih =>
    exact ih (fun d hd => hcs d (List.mem_cons_of_mem _ hd)) _
      (memSet_wf m c.1 c.2 (hcs c List.mem_cons_self) h)

/-- The empty memory has the canonical form. -/
theorem nil_wf : Memory.wf [] = true := rfl

/-- Without an unordered store to the address, a byte reads as the memory stands (R78). -/
theorem memReadByte_no_race (s : State) (a : Nat) (h : racingBytes s a = []) : memReadByte s a = startByte s a := by
  unfold memReadByte; rw [h]

theorem racingBytes_nil (s : State) (a : Nat) (h : s.unordered = []) : racingBytes s a = [] := by
  simp [racingBytes, h]

/-- A listed byte is the start value. -/
theorem startByte_listed (s : State) (a : Nat) (b : Byte) (h : memGet s.mem a = some b) : startByte s a = b := by
  simp [startByte, h]

end Sys2Proof.Machine
end

