-- ==== Sys2Proof/Laws/PerInstr.lean ====
section
/-! SUPPORT. Statements about every instruction as syntax, one lemma per constructor. -/

namespace Sys2Proof.Laws.TableRow

open Sys2Proof

/-- The word of a well-formed instruction has the fixed bits of its row of spec/opcode_table.json. -/
def Statement (i : Instr) : Prop :=
  i.wellFormed = true → tableValue (encode i) &&& (tableRow i).2 = (tableRow i).1

theorem selector_wr_top (off : Byte) : selector .wr off &&& 0x100 = 0x100 := by revert off; decide

theorem selector_rd_top (off : Byte) : selector .rd off &&& 0x100 = 0x000 := by revert off; decide

theorem busPair_cmd_top (b : Byte) : busPair .cmd b &&& 0x100 = 0x000 := by revert b; decide

theorem busPair_data_top (b : Byte) : busPair .data b &&& 0x100 = 0x100 := by revert b; decide

theorem rdCtrl : Statement .rdCtrl := fun _ => rfl

theorem wrCtrl (dither neg : Bool) : Statement (.wrCtrl dither neg) := fun _ =>
  show selector .wr 0x00 &&& 0x1FF = 0x100 by decide

theorem rdWindow : Statement .rdWindow := fun _ => rfl

theorem setWindow (xs ys xe ye : Byte) : Statement (.setWindow xs ys xe ye) := fun _ =>
  show selector .wr 0x04 &&& 0x1FF = 0x104 by decide

theorem rdFlush : Statement .rdFlush := fun _ => rfl

theorem flush : Statement .flush := fun _ => rfl

theorem rdFbBase : Statement .rdFbBase := fun _ => rfl

theorem wrFbBase (addr : Word) : Statement (.wrFbBase addr) := fun _ =>
  show selector .wr 0x0C &&& 0x1FF = 0x10C by decide

theorem rdBusCmd : Statement .rdBusCmd := fun _ => rfl

theorem busCmd (h : Panel) (b : Byte) : Statement (.busCmd h b) := fun _ =>
  show selector .wr 0x10 &&& 0x1FF = 0x110 by decide

theorem rdBusData : Statement .rdBusData := fun _ => rfl

theorem busData (h : Panel) (b : Byte) : Statement (.busData h b) := fun _ =>
  show selector .wr 0x14 &&& 0x1FF = 0x114 by decide

theorem rdStatus : Statement .rdStatus := fun _ => rfl

theorem wrStatus : Statement .wrStatus := fun _ => rfl

theorem rdErrInfo : Statement .rdErrInfo := fun _ => rfl

theorem wrErrInfo : Statement .wrErrInfo := fun _ => rfl

theorem rdGeom : Statement .rdGeom := fun _ => rfl

theorem wrGeom : Statement .wrGeom := fun _ => rfl

theorem rdUnmapped (off : Byte) : Statement (.rdUnmapped off) := fun _ => selector_rd_top off

theorem wrUnmapped (off : Byte) : Statement (.wrUnmapped off) := fun _ => selector_wr_top off

theorem displayOn : Statement .displayOn := fun _ => rfl

theorem setColumn (c : Byte) : Statement (.setColumn c) := by revert c; unfold Statement; decide

theorem setPage (p : Byte) : Statement (.setPage p) := by revert p; unfold Statement; decide

theorem pageData (b : Byte) : Statement (.pageData b) := fun _ => busPair_data_top b

theorem rawCmd (b : Byte) : Statement (.rawCmd b) := fun _ => busPair_cmd_top b

theorem rawData (b : Byte) : Statement (.rawData b) := fun _ => busPair_data_top b

end Sys2Proof.Laws.TableRow
end

