-- ==== Sys2Proof/Laws/Plane.lean ====
section
/-! SUPPORT. The laws of the intensity plane: its size, and a cell after a write to it or to another (R24, R169). -/

namespace Sys2Proof.Machine

open Sys2Proof

theorem Sized.row {w h : Nat} {I : List (List Half)} (hI : Sized w h I) {y : Nat} (hy : y < h) :
    (I.getD y []).length = w := by
  have hl : y < I.length := by rw [hI.1]; exact hy
  rw [List.getD_eq_getElem _ _ hl]
  exact hI.2 _ (List.getElem_mem hl)

theorem setCell_sized {w h : Nat} {I : List (List Half)} (hI : Sized w h I) (y x : Nat) (v : Int) :
    Sized w h (setCell I y x v) := by
  refine ⟨by simp [setCell, hI.1], ?_⟩
  intro r hr
  by_cases hy : y < I.length
  · rcases List.mem_or_eq_of_mem_set hr with h1 | h1
    · exact hI.2 r h1
    · rw [h1, List.length_set]
      exact hI.row (by rw [← hI.1]; exact hy)
  · unfold setCell at hr
    rw [List.set_eq_of_length_le (by omega)] at hr
    exact hI.2 r hr

theorem cellAt_setCell_same {w h : Nat} {I : List (List Half)} (hI : Sized w h I) {y x : Nat} (v : Int)
    (hy : y < h) (hx : x < w) (h0 : -32768 ≤ v) (h1 : v < 32768) : cellAt (setCell I y x v) y x = v := by
  have hl : y < I.length := by rw [hI.1]; exact hy
  have hr : x < (I.getD y []).length := by rw [hI.row hy]; exact hx
  have e : (BitVec.ofInt 16 v).toInt = v := by
    rw [BitVec.toInt_ofInt]
    apply Int.bmod_eq_of_le <;> omega
  have row : (I.set y ((I.getD y []).set x (BitVec.ofInt 16 v))).getD y [] = (I.getD y []).set x (BitVec.ofInt 16 v) := by
    rw [List.getD_eq_getElem _ _ (by simpa using hl), List.getElem_set_self]
  simp only [cellAt, setCell]
  rw [row, List.getD_eq_getElem _ _ (by rw [List.length_set]; exact hr), List.getElem_set_self, e]

theorem cellAt_setCell_other (I : List (List Half)) {y x y' x' : Nat} (v : Int) (h : y ≠ y' ∨ x ≠ x') :
    cellAt (setCell I y x v) y' x' = cellAt I y' x' := by
  simp only [cellAt, setCell]
  by_cases hy : y = y'
  · subst hy
    have hx : x ≠ x' := by rcases h with h | h <;> [exact absurd rfl h; exact h]
    by_cases hl : y < I.length
    · rw [List.getD_eq_getElem (I.set y _) _ (by simpa using hl), List.getElem_set_self]
      simp [List.getD_eq_getElem?_getD, hx]
    · rw [List.set_eq_of_length_le (by omega)]
  · simp [List.getD_eq_getElem?_getD, hy]

/-- Every pixel of the raster lies in the plane. -/
theorem mem_raster {w h : Nat} {q : Nat × Nat} : q ∈ raster w h ↔ q.1 < w ∧ q.2 < h := by
  obtain ⟨x, y⟩ := q
  simp only [raster, List.mem_flatMap, List.mem_range, List.mem_map, Prod.mk.injEq]
  constructor
  · rintro ⟨y', hy, x', hx, rfl, rfl⟩; exact ⟨hx, hy⟩
  · rintro ⟨hx, hy⟩; exact ⟨y, hy, x, hx, rfl, rfl⟩

end Sys2Proof.Machine
end

