-- ==== Sys2Proof/Laws/Phases.lean ====
section
/-! SUPPORT. What the convert and the quantize phase do (R255, R256), said once: `convertPhase_spec` and `quantizePhase_spec`,
and the field lemmas that follow from them. -/

namespace Sys2Proof.Machine

open Sys2Proof

/-! ### Filling a plane cell by cell -/

/-- The stored cell at row `y`, column `x`. -/
def storedAt (I : List (List Half)) (y x : Nat) : Half := (I.getD y []).getD x 0

/-- One cell overwritten. -/
def putCell (f : Nat → Nat → Half) (I : List (List Half)) (q : Nat × Nat) : List (List Half) :=
  I.set q.2 ((I.getD q.2 []).set q.1 (f q.2 q.1))

theorem putCell_sized {w h : Nat} {I : List (List Half)} (f : Nat → Nat → Half) (hI : Sized w h I) {q : Nat × Nat}
    (hq : q.2 < h) : Sized w h (putCell f I q) := by
  refine ⟨by simp [putCell, hI.1], fun r hr => ?_⟩
  rcases List.mem_or_eq_of_mem_set hr with h1 | h1
  · exact hI.2 r h1
  · rw [h1, List.length_set]; exact hI.row hq

theorem storedAt_putCell {w h : Nat} {I : List (List Half)} (f : Nat → Nat → Half) (hI : Sized w h I) {q : Nat × Nat}
    (h1 : q.1 < w) (h2 : q.2 < h) (x y : Nat) :
    storedAt (putCell f I q) y x = if (x, y) = q then f y x else storedAt I y x := by
  obtain ⟨a, b⟩ := q
  have hl : b < I.length := by rw [hI.1]; exact h2
  have hr : a < (I.getD b []).length := by rw [hI.row h2]; exact h1
  simp only [storedAt, putCell, Prod.mk.injEq]
  by_cases hy : b = y
  · subst hy
    rw [List.getD_eq_getElem (I.set b _) _ (by simpa using hl), List.getElem_set_self]
    by_cases hx : a = x
    · subst hx
      rw [List.getD_eq_getElem _ _ (by rw [List.length_set]; exact hr), List.getElem_set_self, if_pos ⟨rfl, rfl⟩]
    · rw [if_neg (fun h => hx h.1.symm)]
      simp [List.getD_eq_getElem?_getD, hx]
  · rw [if_neg (fun h => hy h.2.symm)]
    simp [List.getD_eq_getElem?_getD, hy]

theorem fill_spec {w h : Nat} (f : Nat → Nat → Half) (qs : List (Nat × Nat)) (hqs : ∀ q ∈ qs, q.1 < w ∧ q.2 < h)
    {I : List (List Half)} (hI : Sized w h I) :
    Sized w h (qs.foldl (putCell f) I) ∧
    ∀ x y, storedAt (qs.foldl (putCell f) I) y x = if (x, y) ∈ qs then f y x else storedAt I y x := by
  induction qs generalizing I with
  | nil => exact ⟨hI, fun x y => by simp⟩
  | cons q qs ih =>
    have hq := hqs q (List.mem_cons_self ..)
    obtain ⟨hS, hC⟩ := ih (fun r hr => hqs r (List.mem_cons_of_mem _ hr)) (putCell_sized f hI hq.2)
    refine ⟨hS, fun x y => ?_⟩
    rw [List.foldl_cons, hC, storedAt_putCell f hI hq.1 hq.2]
    by_cases h1 : (x, y) ∈ qs <;> by_cases h2 : (x, y) = q <;> simp [h1, h2]

theorem plane_ext {w h : Nat} {I J : List (List Half)} (hI : Sized w h I) (hJ : Sized w h J)
    (hc : ∀ x y, x < w → y < h → storedAt I y x = storedAt J y x) : I = J := by
  apply List.ext_getElem (by rw [hI.1, hJ.1])
  intro y h1 h2
  have hy : y < h := by rw [← hI.1]; exact h1
  have l1 : (I[y]).length = w := hI.2 _ (List.getElem_mem h1)
  have l2 : (J[y]).length = w := hJ.2 _ (List.getElem_mem h2)
  apply List.ext_getElem (by rw [l1, l2])
  intro x h3 h4
  have := hc x y (by rw [← l1]; exact h3) hy
  simpa only [storedAt, List.getD_eq_getElem _ _ h1, List.getD_eq_getElem _ _ h2, List.getD_eq_getElem _ _ h3,
    List.getD_eq_getElem _ _ h4] using this

theorem blankPlane_sized (p : Params) : Sized p.width p.height (blankPlane p) :=
  ⟨by simp [blankPlane], fun r hr => by rw [List.eq_of_mem_replicate hr]; simp⟩

theorem convertedPlane_sized (s : State) : Sized s.cfg.width s.cfg.height (convertedPlane s) := by
  refine ⟨by simp [convertedPlane], fun r hr => ?_⟩
  simp only [convertedPlane, List.mem_map] at hr
  obtain ⟨y, _, rfl⟩ := hr
  simp [convertRow]

theorem storedAt_convertedPlane (s : State) {x y : Nat} (hx : x < s.cfg.width) (hy : y < s.cfg.height) :
    storedAt (convertedPlane s) y x = convertPixel s y x := by
  simp [storedAt, convertedPlane, convertRow, List.getD_eq_getElem?_getD, hx, hy]

theorem fill_blank (s : State) :
    (raster s.cfg.width s.cfg.height).foldl (putCell (convertPixel s)) (blankPlane s.cfg) = convertedPlane s := by
  obtain ⟨hS, hC⟩ := fill_spec (convertPixel s) _ (fun q hq => mem_raster.mp hq) (blankPlane_sized s.cfg)
  refine plane_ext hS (convertedPlane_sized s) fun x y hx hy => ?_
  rw [hC, if_pos (mem_raster.mpr ⟨hx, hy⟩), storedAt_convertedPlane s hx hy]

/-! ### The convert phase -/

/-- A run of CONVERT positions fills cells and moves the sequencer, nothing else. -/
theorem convertCells_spec (s : State) (qs : List (Nat × Nat)) (I : List (List Half)) (q : Seq) :
    ∃ q', qs.foldl convertCell { s with seq := q, plane := I } =
      { s with seq := q', plane := qs.foldl (putCell (convertPixel s)) I } := by
  induction qs generalizing I q with
  | nil => exact ⟨q, rfl⟩
  | cons r qs ih => exact ih (putCell (convertPixel s) I r) (.convert r.2 r.1)

/-- The convert phase: I holds the converted plane, and only the sequencer and the FLUSH count differ besides. -/
theorem convertPhase_spec (s : State) :
    ∃ q, convertPhase s = { s with seq := q, plane := convertedPlane s, flushCount := s.flushCount + 1 } := by
  obtain ⟨q, hq⟩ := convertCells_spec s (raster s.cfg.width s.cfg.height) (blankPlane s.cfg) (.convert 0 0)
  refine ⟨q, ?_⟩
  simp only [convertPhase, enterFlush]
  rw [hq, fill_blank]

/-! ### The quantize phase -/

/-- A run of DITHER positions quantizes I and moves the sequencer, nothing else. -/
theorem quantizeCells_spec (d : Bool) (s : State) (qs : List (Nat × Nat)) (I : List (List Half)) (q : Seq) :
    ∃ q', qs.foldl (quantizeCell d) { s with seq := q, plane := I } =
      { s with
        seq := q'
        plane := if d then qs.foldl (ditherStep s.cfg.width s.cfg.height) I else qs.foldl threshStep I } := by
  induction qs generalizing I q with
  | nil => exact ⟨q, by cases d <;> rfl⟩
  | cons r qs ih =>
    obtain ⟨q', h⟩ := ih (if d then ditherStep s.cfg.width s.cfg.height I r else threshStep I r) (.dither r.2 r.1)
    refine ⟨q', ?_⟩
    rw [List.foldl_cons]
    refine Eq.trans h ?_
    cases d <;> rfl

/-- The quantize phase: I holds the quantized plane, BP its bits, LB what the line buffers end with. -/
theorem quantizePhase_spec (d : Bool) (s : State) :
    ∃ q, quantizePhase d s =
      { s with
        seq := q
        plane := quantizedPlane d s.cfg.width s.cfg.height s.plane
        bp := planeBits (quantizedPlane d s.cfg.width s.cfg.height s.plane)
        lb0 := (quantizedLines d s).1, lb1 := (quantizedLines d s).2 } := by
  obtain ⟨q, hq⟩ := quantizeCells_spec d s (raster s.cfg.width s.cfg.height) s.plane s.seq
  refine ⟨q, ?_⟩
  have e : (raster s.cfg.width s.cfg.height).foldl (quantizeCell d) s = _ := hq
  simp only [quantizePhase]
  rw [e]
  cases d <;> rfl

/-! ### Their fields -/

@[simp] theorem convertPhase_gamma (s : State) : (convertPhase s).gamma = s.gamma := by
  obtain ⟨q, h⟩ := convertPhase_spec s; rw [h]
@[simp] theorem convertPhase_dither (s : State) : (convertPhase s).dither = s.dither := by
  obtain ⟨q, h⟩ := convertPhase_spec s; rw [h]
@[simp] theorem convertPhase_neg (s : State) : (convertPhase s).neg = s.neg := by
  obtain ⟨q, h⟩ := convertPhase_spec s; rw [h]
@[simp] theorem convertPhase_win (s : State) : (convertPhase s).win = s.win := by
  obtain ⟨q, h⟩ := convertPhase_spec s; rw [h]
@[simp] theorem convertPhase_winValid (s : State) : (convertPhase s).winValid = s.winValid := by
  obtain ⟨q, h⟩ := convertPhase_spec s; rw [h]
@[simp] theorem convertPhase_fbBase (s : State) : (convertPhase s).fbBase = s.fbBase := by
  obtain ⟨q, h⟩ := convertPhase_spec s; rw [h]
@[simp] theorem convertPhase_lastCode (s : State) : (convertPhase s).lastCode = s.lastCode := by
  obtain ⟨q, h⟩ := convertPhase_spec s; rw [h]
@[simp] theorem convertPhase_cfgErr (s : State) : (convertPhase s).cfgErr = s.cfgErr := by
  obtain ⟨q, h⟩ := convertPhase_spec s; rw [h]
@[simp] theorem convertPhase_lineCode (s : State) : (convertPhase s).lineCode = s.lineCode := by
  obtain ⟨q, h⟩ := convertPhase_spec s; rw [h]
@[simp] theorem convertPhase_errInfo (s : State) : (convertPhase s).errInfo = s.errInfo := by
  obtain ⟨q, h⟩ := convertPhase_spec s; rw [h]
@[simp] theorem convertPhase_firstErr (s : State) : (convertPhase s).firstErr = s.firstErr := by
  obtain ⟨q, h⟩ := convertPhase_spec s; rw [h]
@[simp] theorem convertPhase_plane (s : State) : (convertPhase s).plane = convertedPlane s := by
  obtain ⟨q, h⟩ := convertPhase_spec s; rw [h]
@[simp] theorem convertPhase_lb0 (s : State) : (convertPhase s).lb0 = s.lb0 := by
  obtain ⟨q, h⟩ := convertPhase_spec s; rw [h]
@[simp] theorem convertPhase_lb1 (s : State) : (convertPhase s).lb1 = s.lb1 := by
  obtain ⟨q, h⟩ := convertPhase_spec s; rw [h]
@[simp] theorem convertPhase_bp (s : State) : (convertPhase s).bp = s.bp := by
  obtain ⟨q, h⟩ := convertPhase_spec s; rw [h]
@[simp] theorem convertPhase_lines (s : State) : (convertPhase s).lines = s.lines := by
  obtain ⟨q, h⟩ := convertPhase_spec s; rw [h]
@[simp] theorem convertPhase_trace (s : State) : (convertPhase s).trace = s.trace := by
  obtain ⟨q, h⟩ := convertPhase_spec s; rw [h]
@[simp] theorem convertPhase_dly (s : State) : (convertPhase s).dly = s.dly := by
  obtain ⟨q, h⟩ := convertPhase_spec s; rw [h]
@[simp] theorem convertPhase_mem (s : State) : (convertPhase s).mem = s.mem := by
  obtain ⟨q, h⟩ := convertPhase_spec s; rw [h]
@[simp] theorem convertPhase_cfg (s : State) : (convertPhase s).cfg = s.cfg := by
  obtain ⟨q, h⟩ := convertPhase_spec s; rw [h]
@[simp] theorem convertPhase_unordered (s : State) : (convertPhase s).unordered = s.unordered := by
  obtain ⟨q, h⟩ := convertPhase_spec s; rw [h]
@[simp] theorem convertPhase_inputs (s : State) : (convertPhase s).inputs = s.inputs := by
  obtain ⟨q, h⟩ := convertPhase_spec s; rw [h]
@[simp] theorem convertPhase_lineDraws (s : State) : (convertPhase s).lineDraws = s.lineDraws := by
  obtain ⟨q, h⟩ := convertPhase_spec s; rw [h]
@[simp] theorem convertPhase_drawCount (s : State) : (convertPhase s).drawCount = s.drawCount := by
  obtain ⟨q, h⟩ := convertPhase_spec s; rw [h]
@[simp] theorem convertPhase_flushCount (s : State) : (convertPhase s).flushCount = s.flushCount + 1 := by
  obtain ⟨q, h⟩ := convertPhase_spec s; rw [h]
@[simp] theorem convertPhase_workCount (s : State) : (convertPhase s).workCount = s.workCount := by
  obtain ⟨q, h⟩ := convertPhase_spec s; rw [h]
@[simp] theorem convertPhase_readLog (s : State) : (convertPhase s).readLog = s.readLog := by
  obtain ⟨q, h⟩ := convertPhase_spec s; rw [h]
@[simp] theorem quantizePhase_gamma (d : Bool) (s : State) : (quantizePhase d s).gamma = s.gamma := by
  obtain ⟨q, h⟩ := quantizePhase_spec d s; rw [h]
@[simp] theorem quantizePhase_dither (d : Bool) (s : State) : (quantizePhase d s).dither = s.dither := by
  obtain ⟨q, h⟩ := quantizePhase_spec d s; rw [h]
@[simp] theorem quantizePhase_neg (d : Bool) (s : State) : (quantizePhase d s).neg = s.neg := by
  obtain ⟨q, h⟩ := quantizePhase_spec d s; rw [h]
@[simp] theorem quantizePhase_win (d : Bool) (s : State) : (quantizePhase d s).win = s.win := by
  obtain ⟨q, h⟩ := quantizePhase_spec d s; rw [h]
@[simp] theorem quantizePhase_winValid (d : Bool) (s : State) : (quantizePhase d s).winValid = s.winValid := by
  obtain ⟨q, h⟩ := quantizePhase_spec d s; rw [h]
@[simp] theorem quantizePhase_fbBase (d : Bool) (s : State) : (quantizePhase d s).fbBase = s.fbBase := by
  obtain ⟨q, h⟩ := quantizePhase_spec d s; rw [h]
@[simp] theorem quantizePhase_lastCode (d : Bool) (s : State) : (quantizePhase d s).lastCode = s.lastCode := by
  obtain ⟨q, h⟩ := quantizePhase_spec d s; rw [h]
@[simp] theorem quantizePhase_cfgErr (d : Bool) (s : State) : (quantizePhase d s).cfgErr = s.cfgErr := by
  obtain ⟨q, h⟩ := quantizePhase_spec d s; rw [h]
@[simp] theorem quantizePhase_lineCode (d : Bool) (s : State) : (quantizePhase d s).lineCode = s.lineCode := by
  obtain ⟨q, h⟩ := quantizePhase_spec d s; rw [h]
@[simp] theorem quantizePhase_errInfo (d : Bool) (s : State) : (quantizePhase d s).errInfo = s.errInfo := by
  obtain ⟨q, h⟩ := quantizePhase_spec d s; rw [h]
@[simp] theorem quantizePhase_firstErr (d : Bool) (s : State) : (quantizePhase d s).firstErr = s.firstErr := by
  obtain ⟨q, h⟩ := quantizePhase_spec d s; rw [h]
@[simp] theorem quantizePhase_plane (d : Bool) (s : State) : (quantizePhase d s).plane = quantizedPlane d s.cfg.width s.cfg.height s.plane := by
  obtain ⟨q, h⟩ := quantizePhase_spec d s; rw [h]
@[simp] theorem quantizePhase_lb0 (d : Bool) (s : State) : (quantizePhase d s).lb0 = (quantizedLines d s).1 := by
  obtain ⟨q, h⟩ := quantizePhase_spec d s; rw [h]
@[simp] theorem quantizePhase_lb1 (d : Bool) (s : State) : (quantizePhase d s).lb1 = (quantizedLines d s).2 := by
  obtain ⟨q, h⟩ := quantizePhase_spec d s; rw [h]
@[simp] theorem quantizePhase_bp (d : Bool) (s : State) : (quantizePhase d s).bp = planeBits (quantizedPlane d s.cfg.width s.cfg.height s.plane) := by
  obtain ⟨q, h⟩ := quantizePhase_spec d s; rw [h]
@[simp] theorem quantizePhase_lines (d : Bool) (s : State) : (quantizePhase d s).lines = s.lines := by
  obtain ⟨q, h⟩ := quantizePhase_spec d s; rw [h]
@[simp] theorem quantizePhase_trace (d : Bool) (s : State) : (quantizePhase d s).trace = s.trace := by
  obtain ⟨q, h⟩ := quantizePhase_spec d s; rw [h]
@[simp] theorem quantizePhase_dly (d : Bool) (s : State) : (quantizePhase d s).dly = s.dly := by
  obtain ⟨q, h⟩ := quantizePhase_spec d s; rw [h]
@[simp] theorem quantizePhase_mem (d : Bool) (s : State) : (quantizePhase d s).mem = s.mem := by
  obtain ⟨q, h⟩ := quantizePhase_spec d s; rw [h]
@[simp] theorem quantizePhase_cfg (d : Bool) (s : State) : (quantizePhase d s).cfg = s.cfg := by
  obtain ⟨q, h⟩ := quantizePhase_spec d s; rw [h]
@[simp] theorem quantizePhase_unordered (d : Bool) (s : State) : (quantizePhase d s).unordered = s.unordered := by
  obtain ⟨q, h⟩ := quantizePhase_spec d s; rw [h]
@[simp] theorem quantizePhase_inputs (d : Bool) (s : State) : (quantizePhase d s).inputs = s.inputs := by
  obtain ⟨q, h⟩ := quantizePhase_spec d s; rw [h]
@[simp] theorem quantizePhase_lineDraws (d : Bool) (s : State) : (quantizePhase d s).lineDraws = s.lineDraws := by
  obtain ⟨q, h⟩ := quantizePhase_spec d s; rw [h]
@[simp] theorem quantizePhase_drawCount (d : Bool) (s : State) : (quantizePhase d s).drawCount = s.drawCount := by
  obtain ⟨q, h⟩ := quantizePhase_spec d s; rw [h]
@[simp] theorem quantizePhase_flushCount (d : Bool) (s : State) : (quantizePhase d s).flushCount = s.flushCount := by
  obtain ⟨q, h⟩ := quantizePhase_spec d s; rw [h]
@[simp] theorem quantizePhase_workCount (d : Bool) (s : State) : (quantizePhase d s).workCount = s.workCount := by
  obtain ⟨q, h⟩ := quantizePhase_spec d s; rw [h]
@[simp] theorem quantizePhase_readLog (d : Bool) (s : State) : (quantizePhase d s).readLog = s.readLog := by
  obtain ⟨q, h⟩ := quantizePhase_spec d s; rw [h]

end Sys2Proof.Machine
end

