-- ==== Sys2Proof/Tests/Slice0.lean ====
section
/-! SUPPORT. The model's own tests and the witnesses of the statements' hypotheses. Expected values come from
spec/95_test_vectors.md or from hand calculation by the rule a comment names. -/

namespace Sys2Proof.Tests

open Sys2Proof Sys2Proof.Machine

/-! ### Helpers -/

/-- The identity table, the test choice of 95_test_vectors.md. -/
def identity : Vector Byte 256 := Vector.ofFn fun i => BitVec.ofNat 8 i.val

/-- The default parameters, with a clock of 50 MHz. -/
def cfg128 : Params := { Config.defaults with clkHz := 50000000, regBase := 0 }

/-- The 4 by 8 geometry of V-DITH-4. -/
def cfg4 : Params := { cfg128 with width := 4, height := 8 }

/-- A small idle state after reset. -/
def idle (c : Params) : State :=
  { gamma := identity, dither := true, neg := false, win := ⟨0, 0, 0, 0⟩, winValid := false, fbBase := 0
    lastCode := .ok, cfgErr := false, lineCode := 0, errInfo := ⟨0, 0, 0, .left⟩, firstErr := false
    plane := [], lb0 := [], lb1 := [], bp := [], lines := Lines.atReset, trace := [], seq := .idle, dly := 0
    mem := [], cfg := c, unordered := [], inputs := [], lineDraws := [], drawCount := 0, flushCount := 0
    workCount := 0, readLog := [] }

/-- The 4 by 8 plane at address 0 with every byte of it `b`, and the full window. -/
def small (b : Byte) (draws : List LineDraw) : State :=
  { idle cfg4 with
    win := ⟨0, 0, 3, 0⟩, winValid := true, lineDraws := draws
    mem := (List.range 64).map fun a => (a, b) }

/-- A uniform 4 by 8 plane. -/
def uniform (v : Nat) : List (List Half) := List.replicate 8 (List.replicate 4 (BitVec.ofNat 16 v))

/-- What a field of the next state is. -/
def view {α : Type} (f : State → α) : Host.Outcome State Fault Refusal → Option α
  | .next s => some (f s)
  | _ => none

/-- Why an outcome is refused. -/
def refusal : Host.Outcome State Fault Refusal → Option Refusal
  | .refused r => some r
  | _ => none

/-- Why an outcome is a fault. -/
def fault : Host.Outcome State Fault Refusal → Option Fault
  | .fault r => some r
  | _ => none

/-- A transaction of 32 bits that writes. -/
def wr (off : Byte) (data : Word) : Transaction := ⟨.wr, off, 32, data⟩

/-- A transaction of 32 bits that reads. -/
def rd (off : Byte) : Transaction := ⟨.rd, off, 32, 0⟩

/-- The registers a test looks at: STATUS and ERR_INFO. -/
def status (s : State) : Word × Word := (statusWord s, errInfoWord s)

/-- Six events of an emit (V-BUS B1). -/
def six (b : Byte) : List BusEvent :=
  [.data b, .wait (.cycles 1), .e .asserted, .wait (.ns 5000), .e .deasserted, .wait (.ns 1000)]

/-- A position in a transfer of the small geometry, with the next answer given. -/
def emitting (k : Nat) (d : LineDraw) : State := { small 0 [d] with seq := .emit 0 .left k }

/-- A raw position, with the next answer given. -/
def rawAt (m : BusMode) (d : LineDraw) : State := { idle cfg128 with seq := .raw .right m 0, lineDraws := [d] }

/-! ### WellFormed -/

/-- R114: 0x04 is a register, 0x25 is not aligned, 0x24 and 0xFC are unmapped. -/
theorem test_wellFormed_rdUnmapped :
    (Instr.rdUnmapped 0x04).wellFormed = false ∧ (Instr.rdUnmapped 0x25).wellFormed = false ∧
    (Instr.rdUnmapped 0x24).wellFormed = true ∧ (Instr.rdUnmapped 0xFC).wellFormed = true := by decide

theorem test_wellFormed_wrUnmapped :
    (Instr.wrUnmapped 0x20).wellFormed = false ∧ (Instr.wrUnmapped 0x27).wellFormed = false ∧
    (Instr.wrUnmapped 0x24).wellFormed = true ∧ (Instr.wrUnmapped 0xFC).wellFormed = true := by decide

/-- R121, R125: columns have 6 bits and pages 3 under the default command bytes. -/
theorem test_wellFormed_addresses :
    (Instr.setColumn 64).wellFormed = false ∧ (Instr.setColumn 63).wellFormed = true ∧
    (Instr.setPage 8).wellFormed = false ∧ (Instr.setPage 7).wellFormed = true := by decide

/-! ### Decoding: words written out from R101 to R115, R121 and opcode_table.json -/

/-- The nine registers and an unmapped offset, read (R101). -/
theorem test_decode_reads :
    [(0x00 : Byte), 0x04, 0x08, 0x0C, 0x10, 0x14, 0x18, 0x1C, 0x20, 0x24].map (fun o => (decodeHost (rd o)).toOption) =
      [some .rdCtrl, some .rdWindow, some .rdFlush, some .rdFbBase, some .rdBusCmd, some .rdBusData, some .rdStatus,
       some .rdErrInfo, some .rdGeom, some (.rdUnmapped 0x24)] := by decide

/-- V-HOST H1, H7, H8, H11, H13, H14 and R106, R114, R115. -/
theorem test_decode_writes :
    [wr 0x00 0xFFFFFFFE, wr 0x04 0x3F46001E, wr 0x08 0x12345678, wr 0x0C 0x20001001, wr 0x10 0x13F, wr 0x14 0x2FF,
     wr 0x18 0xFFFFFFFF, wr 0x1C 0, wr 0x20 0, wr 0xFC 1].map (fun t => (decodeHost t).toOption) =
      [some (.wrCtrl false true), some (.setWindow 30 0 70 63), some .flush, some (.wrFbBase 0x20001001),
       some (.busCmd .right 0x3F), some (.busData .left 0xFF), some .wrStatus, some .wrErrInfo, some .wrGeom,
       some (.wrUnmapped 0xFC)] := by decide

/-- The emitted pairs of R233 to R236 and R239, their bits written out. -/
theorem test_decode_bus :
    (decodeBus .flush 0b000111111).toOption = some .displayOn ∧
    (decodeBus .flush 0b001011110).toOption = some (.setColumn 30) ∧
    (decodeBus .flush 0b010111011).toOption = some (.setPage 3) ∧
    (decodeBus .flush 0b111111111).toOption = some (.pageData 0xFF) ∧
    (decodeBus .raw 0b000111111).toOption = some (.rawCmd 0x3F) ∧
    (decodeBus .raw 0b110100101).toOption = some (.rawData 0xA5) ∧
    (decodeBus .flush 0b011000000).toOption = none := by decide

/-- R302: a narrow access and a misaligned one are no instructions. -/
theorem test_decode_rejects :
    (decodeHost ⟨.wr, 0x04, 16, 0⟩).toOption = none ∧ (decodeHost ⟨.rd, 0x02, 32, 0⟩).toOption = none := by decide

/-- R118 on H1's pseudo-operation and R117's listing of it. -/
theorem test_pseudo_listing :
    (Pseudo.setwin 30 0 70 63).expand = wr 0x04 0x3F46001E ∧
    (Pseudo.setwin 30 0 70 63).expand.listing = "W 04 3F46001E".toList ∧ (rd 0x1C).listing = "R 1C".toList := by decide

/-- Bare table words (log 16). -/
theorem test_table_words :
    decodeTableWord 16 0x0108 = some .flush ∧ decodeTableWord 16 0x003F = some .displayOn ∧
    decodeTableWord 16 0x01FF = some (.pageData 0xFF) ∧ decodeTableWord 16 0x0301 = none ∧
    decodeTableWord 16 0x0024 = some (.rdUnmapped 0x24) := by decide

/-- The very next step runs the placed word. -/
theorem test_withFetchWord :
    view (·.readLog) (step ((idle cfg128).withFetchWord 16 0x020)) = some [0x00400080] ∧
    view (·.trace.head?) (step (State.withFetchWord { idle cfg128 with lineDraws := [.ok] } 16 0x1A5)) =
      some (some (.data 0xA5)) := by decide

/-! ### Registers (V-HOST) -/

/-- H7. -/
theorem test_ctrl :
    view (fun s => (s.dither, s.neg)) (exec (.wrCtrl false true) (idle cfg128)) = some (false, true) ∧
    view (·.readLog) (exec .rdCtrl { idle cfg128 with dither := false, neg := true }) = some [0x00000002] := by decide

/-- H8. -/
theorem test_fbBase :
    view (·.fbBase) (exec (.wrFbBase 0x20001001) (idle cfg128)) = some 0x20001000 ∧
    view (·.readLog) (exec .rdFbBase { idle cfg128 with fbBase := 0x20001000 }) = some [0x20001000] := by decide

/-- H1's window read, P2's window read. -/
theorem test_rdWindow :
    view (·.readLog) (exec .rdWindow { idle cfg128 with win := ⟨30, 0, 70, 7⟩ }) = some [0x0746001E] ∧
    view (·.readLog) (exec .rdWindow { idle cfg128 with win := ⟨60, 1, 67, 1⟩ }) = some [0x0143013C] := by decide

/-- H9, and P4's STATUS and ERR_INFO words. -/
theorem test_rdStatus :
    view (·.readLog) (exec .rdGeom (idle cfg128)) = some [0x00400080] ∧
    view (·.readLog) (exec .rdStatus { idle cfg128 with winValid := true, lastCode := .busWrite, lineCode := 0x21 }) =
      some [0x00002112] ∧
    view (·.readLog) (exec .rdErrInfo { idle cfg128 with errInfo := ⟨8, 0x43, 0, .left⟩ }) = some [0x00004308] ∧
    view (·.readLog) (exec .rdErrInfo { idle cfg128 with errInfo := ⟨0, 1, 5, .right⟩ }) = some [0x00250100] := by decide

/-- H10, H12 and R115. -/
theorem test_plain_reads :
    [Instr.rdFlush, .rdBusCmd, .rdBusData, .rdUnmapped 0x40].map (fun i => view (·.readLog) (exec i (idle cfg128))) =
      [some [0], some [0], some [0], some [0]] := by decide

/-- H11 and R114, R115: STATUS and the trace stay. -/
theorem test_plain_writes :
    [Instr.wrStatus, .wrErrInfo, .wrGeom, .wrUnmapped 0x40].map (fun i =>
      view (fun s => (status s, s.trace)) (exec i { idle cfg128 with lastCode := .noWindow })) =
      List.replicate 4 (some ((0x00000003, 0), [])) := by decide

/-! ### SET_WINDOW (V-HOST H1 to H6) -/

theorem test_setWindow_accepts :
    view (fun s => (s.win, statusWord s)) (exec (.setWindow 30 0 70 63) (idle cfg128)) = some (⟨30, 0, 70, 7⟩, 0x10) ∧
    view (fun s => (s.win, statusWord s)) (exec (.setWindow 5 5 67 3) (idle cfg128)) = some (⟨5, 0, 67, 0⟩, 0x10) := by
  decide

/-- H2, H4, H5, H6; WIN keeps its old fields (R292). -/
theorem test_setWindow_rejects :
    [Instr.setWindow 5 8 67 3, .setWindow 30 0 128 63, .setWindow 30 0 70 64, .setWindow 32 0 16 0].map (fun i =>
      view (fun s => (s.win, statusWord s)) (exec i { idle cfg128 with win := ⟨1, 2, 3, 4⟩, winValid := true })) =
      List.replicate 4 (some (⟨1, 2, 3, 4⟩, 0x01)) := by decide

/-! ### Converter (V-CONV) -/

theorem test_luma_565 :
    [0x0000, 0xFFFF, 0xF800, 0x07E0, 0x001F, 0x8410, 0x7BEF, 0x4208, 0xC618, 0x18E3].map (fun px => (luma cfg128 px).toNat) =
      [0, 255, 76, 149, 29, 130, 124, 65, 196, 26] := by decide

theorem test_luma_555 :
    [0x7FFF, 0xFFFF, 0x8000, 0x7C00, 0x03E0, 0x4210].map (fun px => (luma { cfg128 with pixFmt := .rgb555 } px).toNat) =
      [255, 255, 0, 76, 149, 132] := by decide

theorem test_convert_looks_up : convert cfg128 identity 0x8410 = 130 ∧ convert cfg128 (Vector.replicate 256 7) 0x8410 = 7 := by
  decide +kernel

/-! ### Ditherer -/

/-- V-DITH D1 to D8: the quantized value and the diffused error. -/
theorem test_dither_errors :
    [100, 127, 128, 136, 7, 249, 0, 255].map (fun p : Int => (quantize p, diffusedError p)) =
      [(0, 12), (0, 15), (255, -15), (255, -14), (0, 0), (255, 0), (0, 0), (255, 0)] := by decide

/-- The first rows of the uniform-100 plane after step (3,1) (V-DITH-4's trace). -/
theorem test_dither_trace :
    ((((raster 4 8).take 8).foldl (ditherStep 4 8) (uniform 100)).take 3).map (fun r => r.map (·.toInt)) =
      [[0, 255, 0, 0], [255, 0, 0, 255], [58, 87, 149, 105]] := by decide +kernel

/-- V-DITH-4, intensities 100, 64 and 128. -/
theorem test_dither_planes :
    (planeBits (ditherPlane 4 8 (uniform 100))).map (fun r => r.map Bool.toNat) =
      [[0, 1, 0, 0], [1, 0, 0, 1], [0, 0, 1, 0], [0, 1, 0, 1], [1, 0, 1, 0], [0, 0, 0, 0], [0, 1, 1, 1], [1, 0, 0, 0]] ∧
    (planeBits (ditherPlane 4 8 (uniform 64))).map (fun r => r.map Bool.toNat) =
      [[0, 0, 0, 0], [0, 1, 0, 1], [0, 0, 0, 0], [0, 1, 0, 1], [0, 0, 0, 0], [0, 1, 0, 1], [0, 0, 0, 0], [0, 1, 0, 1]] ∧
    (planeBits (ditherPlane 4 8 (uniform 128))).map (fun r => r.map Bool.toNat) =
      [[1, 0, 1, 0], [0, 1, 0, 1], [1, 0, 1, 0], [0, 1, 0, 1], [1, 0, 1, 0], [0, 1, 0, 1], [1, 0, 1, 0], [0, 1, 0, 1]] := by
  decide +kernel

/-- R175 on the uniform-100 plane. -/
theorem test_line_buffers :
    (lineBufferRun 4 [] [] (uniform 100)).1 = planeBits (ditherPlane 4 8 (uniform 100)) := by decide +kernel

/-- V-THR. -/
theorem test_threshold :
    ([0, 127, 128, 255].map fun p : Int => quantize p) = [0, 0, 255, 255] ∧
    planeBits (threshPlane 4 8 (uniform 100)) = List.replicate 8 (List.replicate 4 false) ∧
    planeBits (threshPlane 4 8 (uniform 130)) = List.replicate 8 (List.replicate 4 true) := by decide +kernel

/-! ### Packer (V-PACK, S4) -/

theorem test_pack_records :
    ([⟨30, 0, 70, 0⟩, ⟨0, 0, 127, 0⟩, ⟨63, 0, 64, 0⟩, ⟨64, 0, 127, 0⟩, ⟨70, 0, 80, 0⟩, ⟨5, 0, 5, 0⟩].map fun w =>
      ([Panel.left, Panel.right].filter fun h => touches cfg128 w h).map fun h =>
        (panelBit h, columnStart cfg128 w h, (windowColumns cfg128 w h).head?, (windowColumns cfg128 w h).length)) =
      [[(false, 30, some 30, 34), (true, 0, some 64, 7)], [(false, 0, some 0, 64), (true, 0, some 64, 64)],
       [(false, 63, some 63, 1), (true, 0, some 64, 1)], [(true, 0, some 64, 64)], [(true, 6, some 70, 11)],
       [(false, 5, some 5, 1)]] := by decide

theorem test_pack_bytes :
    (["11111111", "00000000", "10000000", "00000001", "10010010", "10101010"].map fun c =>
      let bp := c.toList.map fun b => [b == '1']
      (packByte bp false 0 0, packByte bp true 0 0)) =
      [(0xFF, 0x00), (0x00, 0xFF), (0x01, 0xFE), (0x80, 0x7F), (0x49, 0xB6), (0x55, 0xAA)] := by decide

/-! ### FLUSH -/

/-- Intensity 127 dithers to the checkerboard that packs to AA 55 (S7, V-DITH-4); the transfers are those of V-BUS B5, B6. -/
theorem test_flush_trace :
    view (fun s => (s.trace, statusWord s)) (exec .flush { small 0 (List.replicate 10 .ok) with gamma := Vector.replicate 256 127 }) =
      some ([.cs .right .deasserted, .cs .left .asserted, .mode .cmd] ++ six 0x3F ++ six 0x40 ++ six 0xB8 ++ [.mode .data] ++
        six 0xAA ++ six 0x55 ++
        [.cs .left .deasserted, .cs .right .asserted, .mode .cmd] ++ six 0x3F ++ six 0x40 ++ six 0xB8 ++ [.mode .data] ++
        six 0xAA ++ six 0x55 ++ [.cs .left .deasserted, .cs .right .deasserted], 0x10) := by decide +kernel

/-- Two faults as in P4 (all WHITE): the first is recorded (offset 4 of 5 bytes), the right transfer still runs. -/
theorem test_flush_faults :
    view (fun s => (s.trace.length, status s, s.lineDraws))
      (exec .flush (small 0xFF [.ok, .ok, .ok, .ok, .fail 0x20 3, .ok, .fail 0x06 0, .ok])) =
      some (3 + 18 + 1 + 6 + 6 + (3 + 6 + 3) + 2, (0x00002112, 0x00000504), [.ok]) := by decide +kernel

/-- P3: NO_WINDOW, and then threshold mode with NEG = 1 on an all-WHITE plane sends 00. -/
theorem test_flush_gates :
    view (fun s => (statusWord s, s.trace)) (exec .flush (idle cfg128)) = some (0x03, []) ∧
    view (fun s => (s.trace.filterMap fun e => match e with
        | .data b => some b
        | _ => none)) (exec .flush { small 0xFF (List.replicate 10 .ok) with dither := false, neg := true }) =
      some [0x3F, 0x40, 0xB8, 0x00, 0x00, 0x3F, 0x40, 0xB8, 0x00, 0x00] := by decide +kernel

/-- R80, R303: the high byte of the pixel at 62 is not admitted. -/
theorem test_flush_stuck :
    fault (exec .flush { small 0 [] with cfg := { cfg4 with srcHoles := [(63, 70)] } }) = some (.sourceReadStuck 63) := by
  decide +kernel

/-- P5: with CFG_ERR = 1 the operations report CONFIG. -/
theorem test_config_gate :
    [Instr.setWindow 0 0 7 7, .flush, .busCmd .left 0x3F, .busData .right 0].map (fun i =>
      view (fun s => (statusWord s, s.trace, s.win)) (exec i { idle cfg128 with cfgErr := true })) =
      List.replicate 4 (some (0x24, [], ⟨0, 0, 0, 0⟩)) := by decide

/-! ### Raw transfers and bytes -/

/-- P1. -/
theorem test_busCmd :
    view (fun s => (s.trace, s.lines.d, status s)) (exec (.busCmd .right 0x3F) { idle cfg128 with lineDraws := [.ok] }) =
      some ([.cs .left .deasserted, .cs .right .asserted, .mode .cmd] ++ six 0x3F ++
        [.cs .left .deasserted, .cs .right .deasserted], 0x3F, 0, 0) := by decide

/-- P6. -/
theorem test_busData :
    view (fun s => (s.trace, status s)) (exec (.busData .left 0xA5) { idle cfg128 with lineDraws := [.fail 0x7F 1] }) =
      some ([.cs .right .deasserted, .cs .left .asserted, .mode .data, .data 0xA5, .e .deasserted, .wait (.ns 1000),
        .fault 0x80, .cs .left .deasserted, .cs .right .deasserted], 0x00008002, 0x00000100) := by decide

/-- R233 to R236, R239: the byte each form emits. -/
theorem test_byte_forms :
    [Instr.displayOn, .setColumn 30, .setPage 7, .pageData 0x49].map (fun i => view (·.trace) (exec i (emitting 0 .ok))) =
      [some (six 0x3F), some (six 0x5E), some (six 0xBF), some (six 0x49)] ∧
    view (·.trace) (exec (.rawCmd 0xAE) (rawAt .cmd .ok)) = some (six 0xAE) ∧
    view (·.trace) (exec (.rawData 0x01) (rawAt .data .ok)) = some (six 0x01) := by decide

/-- V-BUS B3, B4, and the record of R230 at offset 2 of a transfer with 2 data bytes. -/
theorem test_byte_faults :
    view (fun s => (s.trace, status s)) (exec (.setPage 0) (emitting 2 (.fail 4 0))) =
      some ([.e .deasserted, .wait (.ns 1000), .fault 5], 0x00000510, 0x00000502) ∧
    view (·.trace) (exec (.pageData 9) (emitting 4 (.fail 254 6))) =
      some (six 9 ++ [.e .deasserted, .wait (.ns 1000), .fault 255]) := by decide

/-- Log 15. -/
theorem test_byte_refusals :
    [Instr.displayOn, .setColumn 0, .setPage 0, .pageData 0, .rawCmd 0, .rawData 0].map (fun i =>
      refusal (exec i (idle cfg128))) = List.replicate 6 (some .notEmitting) ∧
    refusal (exec (.rawCmd 0) (rawAt .data .ok)) = some .notEmitting := by decide

/-! ### Steps -/

/-- R301, R302. -/
theorem test_step_refuses :
    refusal (step { idle cfg128 with inputs := [.overlap (rd 0)] }) = some .hostOverlap ∧
    refusal (step { idle cfg128 with inputs := [.access ⟨.rd, 0x01, 32, 0⟩] }) = some .unsupportedAccess ∧
    refusal (step { idle cfg128 with inputs := [.access ⟨.rd, 0x00, 8, 0⟩] }) = some .unsupportedAccess := by decide

/-- R333 with LINES_OK = false (P5), and with H = 12. -/
theorem test_step_reset :
    view statusWord (step { idle cfg128 with inputs := [.reset false] }) = some 0x20 ∧
    view statusWord (step { idle { cfg128 with height := 12 } with inputs := [.reset true] }) = some 0x20 ∧
    view (·.trace) (step { idle cfg128 with inputs := [.reset true] }) =
      some [.e .deasserted, .cs .left .deasserted, .cs .right .deasserted, .mode .cmd, .rw .write, .data 0x00] := by decide

/-- P7 in small: reset after the 4th event of a raw command. -/
theorem test_step_resetDuring :
    view (fun s => (s.trace, s.winValid, s.seq)) (step
      { idle cfg128 with winValid := true, lineDraws := [.ok], inputs := [.resetDuring (wr 0x10 0x13F) 4 true] }) =
      some ([.cs .left .deasserted, .cs .right .asserted, .mode .cmd, .data 0x3F] ++ resetEvents, false, .idle) := by decide

/-- R83, R89: a store is a racing one until the fence. -/
theorem test_step_store_fence :
    view (fun s => (s.mem, s.unordered)) (step { idle cfg128 with inputs := [.store 3 9], mem := [(1, 1), (5, 2)] }) =
      some ([(1, 1), (5, 2)], [(3, 9)]) ∧
    view (fun s => (s.mem, s.unordered)) (step
      { idle cfg128 with inputs := [.fence], mem := [(1, 1), (5, 2)], unordered := [(3, 9), (5, 7)] }) =
      some ([(1, 1), (3, 9), (5, 7)], []) := by decide

/-- R53: from the last command byte the data phase begins; from ROWEND of the last page the FLUSH ends; after the last
DITHER the first transfer begins. -/
theorem test_step_positions :
    view (fun s => (s.seq, s.trace.drop 6)) (step (emitting 2 .ok)) = some (.emit 0 .left 3, [.mode .data]) ∧
    view (fun s => (s.seq, s.trace)) (step { small 0 [] with seq := .rowEnd 0 }) =
      some (.idle, [.cs .left .deasserted, .cs .right .deasserted]) ∧
    view (·.seq) (step { small 0 [] with seq := .convert 0 3 }) = some (.convert 1 0) ∧
    view (fun s => (s.seq, s.trace)) (step { small 0 [] with plane := uniform 9, seq := .dither 7 3 }) =
      some (.emit 0 .left 0, [.cs .right .deasserted, .cs .left .asserted, .mode .cmd]) := by decide +kernel

/-! ### Views -/

/-- R75 wraps (R79): row 0, pixel 2 from 0xFFFFFFFC is at address 0. -/
theorem test_pixAddr : pixAddr cfg128 0x20000000 1 1 = 0x20000102 ∧ pixAddr cfg128 0xFFFFFFFC 2 0 = 0 := by decide

/-- R76: little-endian. -/
theorem test_memRead : memRead16 { idle cfg128 with mem := [(0x10, 0x34), (0x11, 0x12)] } 0x10 = 0x1234 := by decide

/-- R225 at 50, 1 and 3 MHz (V-BUS). -/
theorem test_waitCycles :
    [50000000, 1000000, 3000000].map (fun hz =>
      (waitCycles { cfg128 with clkHz := hz } (.ns 5000), waitCycles { cfg128 with clkHz := hz } (.ns 1000))) =
      [(250, 50), (5, 1), (15, 3)] := by decide

/-- R71, R73, R351. -/
theorem test_views :
    regAddr { cfg128 with regBase := 0x40000000 } 0x1C = 0x4000001C ∧ regByte 0x3F46001E 2 = 0x46 ∧
    flushBytes cfg128 ⟨0, 0, 127, 7⟩ = 1072 ∧ flushBytes cfg128 ⟨30, 0, 70, 7⟩ = 376 := by decide

/-! ### Witnesses: states and operands that meet the hypotheses of each statement -/

/-- Every operand check at its bounds. -/
theorem witness_DecodeOfEncodeIsIdentity :
    [Instr.setColumn 0, .setColumn 63, .setPage 7, .rdUnmapped 0x24, .rdUnmapped 0xFC, .wrUnmapped 0x24, .wrFbBase 1,
      .setWindow 255 0 0 255].all Instr.wellFormed = true := by decide

/-- The last register and the first unmapped offset. -/
theorem witness_HostDecodingTotal :
    ((wr 0x20 0).width = 32 ∧ (wr 0x20 0).off.toNat % 4 = 0) ∧
    ((wr 0x00 0).width = 32 ∧ (wr 0x00 0).off.toNat < 0x24 ∧ (wr 0x20 0).off.toNat < 0x24) ∧
    ((rd 0x24).width = 32 ∧ (rd 0x24).off.toNat % 4 = 0 ∧ 0x24 ≤ (rd 0x24).off.toNat) := by decide

theorem witness_ReservedWriteBitsIgnored :
    (0x00000001 : Word).extractLsb' 0 2 = (0xFFFFFFFD : Word).extractLsb' 0 2 ∧
    (0x0000013F : Word).extractLsb' 0 9 = (0xFFFFFF3F : Word).extractLsb' 0 9 ∧
    (0x20001001 : Word).extractLsb' 1 31 = (0x20001000 : Word).extractLsb' 1 31 := by decide

theorem witness_StepRunsDecodedAccess :
    let s := { idle cfg128 with inputs := [.access (wr 0x04 0x3F46001E)] }
    s.seq = .idle ∧ s.inputs = [.access (wr 0x04 0x3F46001E)] ∧
    decodeHost (wr 0x04 0x3F46001E) = .ok (.setWindow 30 0 70 63) := ⟨rfl, rfl, rfl⟩

/-- A position of the small geometry outside a transfer. -/
def standing (q : Seq) : State := { small 0 [] with plane := uniform 255, seq := q }

/-- The four forms, each at its position (k = 4 is the last of two columns), with a fault and without; both raw modes. -/
theorem witness_StepRunsEmittedByte :
    (emitting 4 .ok).inputs = [] ∧ (emitting 4 .ok).seq = .emit 0 .left 4 ∧
    (0 = (small 0 []).win.xs.toNat ∧ 1 = min (small 0 []).win.xe.toNat (cfg4.width / 2 - 1)) ∧
    (2 = max (small 0 []).win.xs.toNat (cfg4.width / 2) ∧ 3 = (small 0 []).win.xe.toNat ∧ 0 = 2 - cfg4.width / 2) ∧
    (4 = 3 + 1 ∧ 0 + 1 ≤ 1 ∧ ∃ t, exec (.pageData 0) (emitting 4 .ok) = .next t) ∧
    (∃ t, exec .displayOn (emitting 0 (.fail 1 1)) = .next t) ∧ (∃ t, exec (.setColumn 0) (emitting 1 .ok) = .next t) ∧
    (∃ t, exec (.setPage 0) (emitting 2 .ok) = .next t) ∧
    (∃ t, exec (.rawData 0) (setMode .data (chipSelect .right (rawAt .data .ok))) = .next t) ∧
    (∃ t, exec (.rawCmd 0) (setMode .cmd (chipSelect .right (rawAt .cmd .ok))) = .next t) :=
  ⟨rfl, rfl, ⟨rfl, rfl⟩, ⟨rfl, rfl, rfl⟩, ⟨rfl, by decide, _, rfl⟩, ⟨_, rfl⟩, ⟨_, rfl⟩, ⟨_, rfl⟩, ⟨_, rfl⟩, _, rfl⟩

/-- The positions outside a transfer: first and last pixel, last page and the page before one. -/
theorem witness_StepRunsEmittedByte_positions :
    (standing (.convert 7 3)).inputs = [] ∧ (3 < cfg4.width ∧ 7 < cfg4.height ∧ 0 + 1 < cfg4.width) ∧
    Sized cfg4.width cfg4.height (standing (.convert 7 3)).plane ∧
    (3 + 1 = cfg4.width ∧ 7 + 1 = cfg4.height ∧ 6 + 1 < cfg4.height) ∧
    (admitted cfg4 (pixAddr cfg4 0 3 7).toNat = true ∧ admitted cfg4 (pixAddr cfg4 0 3 7 + 1).toNat = true) ∧
    (standing (.rowEnd 0)).win.yePage.toNat ≤ 0 ∧
    0 < { standing (.rowEnd 0) with win := ⟨0, 0, 3, 1⟩ }.win.yePage.toNat :=
  ⟨rfl, by decide, ⟨rfl, fun r hr => by rw [List.eq_of_mem_replicate hr]; rfl⟩, by decide, by decide, by decide, by decide⟩

theorem witness_StepRefusesOverlapAndBadAccess :
    (idle cfg128).seq = .idle ∧ (⟨.wr, 0x04, 16, 0⟩ : Transaction).width ≠ 32 ∧ (rd 0x21).off.toNat % 4 ≠ 0 := by decide

theorem witness_IdleBlockWaits : (idle cfg128).seq = .idle ∧ (idle cfg128).inputs = [] := ⟨rfl, rfl⟩

theorem witness_ReadGeomReturnsGeometry :
    ((idle cfg4).cfg.width < 65536 ∧ (idle cfg4).cfg.height < 65536) ∧
    ((idle cfg128).cfg.width = 128 ∧ (idle cfg128).cfg.height = 64) := by decide

theorem witness_WriteCtrlSetsBits :
    (idle cfg128).seq = .idle ∧ [HostEvent.access (wr 0x00 2)] = .access ⟨.wr, 0x00, 32, 2⟩ :: [] := ⟨rfl, rfl⟩

/-- The last column and page, one column wide. -/
theorem witness_SetWindowStoresWindow :
    (idle cfg128).cfgErr = false ∧ (127 : Byte).toNat ≤ (127 : Byte).toNat ∧
    (127 : Byte).toNat < (idle cfg128).cfg.width ∧ (63 : Byte).toNat / 8 ≤ (56 : Byte).toNat / 8 ∧
    (56 : Byte).toNat / 8 < (idle cfg128).cfg.height / 8 := by decide

/-- H6, H4, H2 and H5, one for each way to break the invariant. -/
theorem witness_SetWindowRejectsWindow :
    (idle cfg128).cfgErr = false ∧ (16 : Byte).toNat < (32 : Byte).toNat ∧
    (idle cfg128).cfg.width ≤ (128 : Byte).toNat ∧ (3 : Byte).toNat / 8 < (8 : Byte).toNat / 8 ∧
    (idle cfg128).cfg.height / 8 ≤ (64 : Byte).toNat / 8 := by decide

theorem witness_ConfigErrorGatesOperations :
    { idle cfg128 with cfgErr := true }.cfgErr = true ∧
    (∃ xs ys xe ye, Instr.setWindow 0 0 7 7 = .setWindow xs ys xe ye) ∧ Instr.flush = .flush ∧
    (∃ h b, Instr.busCmd .left 0 = .busCmd h b) ∧ (∃ h b, Instr.busData .right 0 = .busData h b) :=
  ⟨rfl, ⟨_, _, _, _, rfl⟩, rfl, ⟨_, _, rfl⟩, ⟨_, _, rfl⟩⟩

theorem witness_FlushWithoutWindow : (idle cfg128).cfgErr = false ∧ (idle cfg128).winValid = false := ⟨rfl, rfl⟩

/-- The first pixel by its low byte, the last by its high byte. -/
theorem witness_FlushStuckOnRefusedRead :
    (small 0 []).cfgErr = false ∧ (small 0 []).winValid = true ∧
    (0 < cfg4.width ∧ 0 < cfg4.height ∧ admitted { cfg4 with srcHoles := [(0, 0)] } (pixAddr cfg4 0 0 0).toNat = false) ∧
    (3 < cfg4.width ∧ 7 < cfg4.height ∧
      admitted { cfg4 with srcHoles := [(63, 63)] } (pixAddr cfg4 0 3 7 + 1).toNat = false) := by decide

theorem plane_admitted (b : Byte) (ds : List LineDraw) : PlaneAdmitted (small b ds) := fun _ _ _ _ => ⟨rfl, rfl⟩

theorem witness_FlushCompletes :
    (small 0 []).cfgErr = false ∧ (small 0 []).winValid = true ∧ windowOk (small 0 []).cfg (small 0 []).win = true ∧
    PlaneAdmitted (small 0 []) := ⟨rfl, rfl, by decide, plane_admitted 0 []⟩

/-- The three operations, each with a fault. -/
theorem witness_BusResultIsFirstFault :
    (small 0 [.fail 6 0]).cfgErr = false ∧ (small 0 [.fail 6 0]).winValid = true ∧
    (∃ t, exec .flush (small 0 [.fail 6 0]) = .next t) ∧
    (∃ t, exec (.busCmd .left 1) (small 0 [.fail 6 0]) = .next t) ∧
    (∃ t, exec (.busData .left 1) (small 0 [.fail 6 0]) = .next t) := ⟨rfl, rfl, ⟨_, rfl⟩, ⟨_, rfl⟩, ⟨_, rfl⟩⟩

/-- Two transfers of five bytes. -/
theorem witness_FlushLatchesPackedPages :
    let s := small 0 (List.replicate 10 .ok)
    s.cfgErr = false ∧ s.winValid = true ∧ PlaneAdmitted s ∧ FaultFree (flushBytes s.cfg s.win) s :=
  ⟨rfl, rfl, plane_admitted _ _, [], rfl⟩

theorem witness_ReflushIsIdempotent :
    let s := small 0 (List.replicate 20 .ok)
    s.cfgErr = false ∧ s.winValid = true ∧ PlaneAdmitted s ∧ s.unordered = [] ∧
    FaultFree (2 * flushBytes s.cfg s.win) s := ⟨rfl, rfl, plane_admitted _ _, rfl, [], rfl⟩

/-- Memories that differ at the first byte past the plane. -/
theorem witness_FlushReadsOnlyThePlane :
    ∀ a, InPixelPlane (small 0 []) a → memGet ((small 0 []).mem ++ [(64, 9)]) a = memGet (small 0 []).mem a := by
  have key : ∀ x < 4, ∀ y < 8,
      memGet ((small 0 []).mem ++ [(64, 9)]) (pixAddr cfg4 0 x y).toNat = memGet (small 0 []).mem (pixAddr cfg4 0 x y).toNat ∧
      memGet ((small 0 []).mem ++ [(64, 9)]) (pixAddr cfg4 0 x y + 1).toNat =
        memGet (small 0 []).mem (pixAddr cfg4 0 x y + 1).toNat := by decide +kernel
  rintro a ⟨x, y, hx, hy, rfl | rfl⟩
  · exact (key x hx y hy).1
  · exact (key x hx y hy).2

/-- Each form, with an address at the end of its table and one past it. -/
theorem witness_FlushByteEmits :
    (emitting 0 .ok).seq = .emit 0 .left 0 ∧ nextDraw (emitting 0 .ok) = .ok ∧ cfg4.cmdDisplayOn = 0x3F ∧
    cfg4.colCmd[(63 : Byte).toNat]? = some 0x7F ∧ cfg4.colCmd[(64 : Byte).toNat]? = none ∧
    cfg4.pageCmd[(7 : Byte).toNat]? = some 0xBF ∧ cfg4.pageCmd[(8 : Byte).toNat]? = none :=
  ⟨rfl, rfl, rfl, rfl, rfl, rfl, rfl⟩

theorem witness_RawByteEmits :
    (rawAt .cmd .ok).seq = .raw .right .cmd 0 ∧ nextDraw (rawAt .cmd .ok) = .ok ∧
    (rawAt .data .ok).seq = .raw .right .data 0 ∧ nextDraw (rawAt .data .ok) = .ok := ⟨rfl, rfl, rfl, rfl⟩

/-- The smallest code with no event shown, the largest with all six; with and without an earlier fault. -/
theorem witness_FlushByteFaultIsRecorded :
    (emitting 2 (.fail 0 0)).seq = .emit 0 .left 2 ∧ nextDraw (emitting 2 (.fail 0 0)) = .fail 0 0 ∧
    (emitting 2 (.fail 0 0)).firstErr = false ∧ nextDraw (emitting 4 (.fail 254 6)) = .fail 254 6 ∧
    { emitting 4 (.fail 254 6) with firstErr := true }.firstErr = true ∧
    cfg4.colCmd[(63 : Byte).toNat]? = some 0x7F ∧ cfg4.pageCmd[(8 : Byte).toNat]? = none :=
  ⟨rfl, rfl, rfl, rfl, rfl, rfl, rfl⟩

/-- IDLE, and the raw position of the other mode. -/
theorem witness_BusFormsOutsideTheirOperation :
    (∀ p h k, (idle cfg128).seq ≠ .emit p h k) ∧ (∀ h b, (rawAt .data .ok).seq ≠ .raw h .cmd b) ∧
    (∀ h b, (rawAt .cmd .ok).seq ≠ .raw h .data b) :=
  ⟨fun _ _ _ h => by simp [idle] at h, fun _ _ h => by simp [rawAt] at h, fun _ _ h => by simp [rawAt] at h⟩

theorem witness_RawTransferWithoutFault :
    (small 0 [.ok]).cfgErr = false ∧ nextDraw (small 0 [.ok]) = .ok := ⟨rfl, rfl⟩

theorem witness_RawTransferWithFault :
    (small 0 []).cfgErr = false ∧ nextDraw (small 0 [.fail 0 0]) = .fail 0 0 ∧
    nextDraw (small 0 [.fail 254 6]) = .fail 254 6 := ⟨rfl, rfl, rfl⟩

/-- The first and the last byte of a transfer of two data bytes. -/
theorem witness_FaultEndsTransfer :
    let r : PageRecord := ⟨.left, 0, 0, [1, 2]⟩
    (0 < 3 + r.bytes.length ∧ (small 0 [.fail 1 1]).lineDraws = List.replicate 0 .ok ++ .fail 1 1 :: []) ∧
    (4 < 3 + r.bytes.length ∧
      (small 0 [.ok, .ok, .ok, .ok, .fail 1 1]).lineDraws = List.replicate 4 .ok ++ .fail 1 1 :: []) ∧
    (small 0 []).firstErr = false := by decide

/-- With one chip-select asserted, at the start of a raw command. -/
theorem witness_ChipSelectsNeverBothAsserted :
    let s := { idle cfg128 with
      lines := { Lines.atReset with cs1 := .asserted }, lineDraws := [.ok], inputs := [.access (wr 0x10 0x3F)] }
    csExclusive s.lines ∧ ∃ t, step s = .next t := ⟨fun h => Level.noConfusion h.1, _, rfl⟩

theorem small_inv (b : Byte) (hw : Memory.wf (small b []).mem = true) (ins : List HostEvent) :
    Inv { small b [] with inputs := ins, unordered := [(5, 1)] } :=
  { idle := rfl, dly := rfl, latch := rfl, rw := rfl, cs0 := rfl, cs1 := rfl
    fbBase := by show (0 : Word).getLsbD 0 = false; decide
    window := fun _ => by show windowOk cfg4 ⟨0, 0, 3, 0⟩ = true; decide
    noError := fun _ => ⟨rfl, rfl⟩
    cfgErr := by show false = cfgError cfg4; decide
    params := by show paramsLegal cfg4 = true; decide
    memory := hw
    stores := by intro c hc; simp at hc; subst hc; decide }

/-- A valid window, a listed plane and a pending store, before a fence. -/
theorem witness_EveryStepKeepsInv :
    Inv { small 0 [] with inputs := [.fence], unordered := [(5, 1)] } ∧
    ∃ t, step { small 0 [] with inputs := [.fence], unordered := [(5, 1)] } = .next t :=
  ⟨small_inv 0 (by decide) _, _, rfl⟩

theorem witness_NoInstructionWritesSourceOrConfig :
    ∃ t, exec (.busData .right 1) { small 0 [.ok] with unordered := [(5, 1)] } = .next t := ⟨_, rfl⟩

/-- FLUSH is none of the three writers. -/
theorem witness_RegistersHaveOneWriter :
    (∃ t, exec .flush (small 0 [.fail 6 0]) = .next t) ∧ (∀ xs ys xe ye, Instr.flush ≠ .setWindow xs ys xe ye) ∧
    (∀ d n, Instr.flush ≠ .wrCtrl d n) ∧ (∀ a, Instr.flush ≠ .wrFbBase a) :=
  ⟨⟨_, rfl⟩, fun _ _ _ _ => Instr.noConfusion, fun _ _ => Instr.noConfusion, fun _ => Instr.noConfusion⟩

/-- A register write meets every condition, a BUS form the outer ones. -/
theorem witness_StatusAndBusWriters :
    (∃ t, exec (.wrFbBase 3) (small 0 []) = .next t) ∧ (∃ t, exec .displayOn (emitting 0 .ok) = .next t) ∧
    Instr.wrFbBase 3 ≠ .flush ∧ Instr.wrFbBase 3 ≠ .displayOn ∧ Instr.displayOn ≠ .flush ∧
    (∀ h b, Instr.displayOn ≠ .busCmd h b) :=
  ⟨⟨_, rfl⟩, ⟨_, rfl⟩, Instr.noConfusion, Instr.noConfusion, Instr.noConfusion, fun _ _ => Instr.noConfusion⟩

/-- S1: the gray pixels of the two formats. -/
theorem witness_GrayGivesGammaEntry :
    WeightsOk cfg128 ∧ channels .rgb565 0x0841 = (8, 8, 8) ∧ channels .rgb565 0xFFFF = (255, 255, 255) ∧
    channels .rgb555 0x4210 = (132, 132, 132) := ⟨⟨rfl, by decide⟩, by decide, by decide, by decide⟩

theorem witness_LumaNeedsNoClamp : channels cfg128.pixFmt 0xFFFF = (255, 255, 255) ∧ WeightsOk cfg128 :=
  ⟨by decide, rfl, by decide⟩

theorem witness_QuantizeAtTheMidpoint : ∀ p ∈ [(0 : Int), 127, 128, 255], 0 ≤ p ∧ p ≤ 255 := by decide

theorem uniform_sized (v : Nat) : Sized 4 8 (uniform v) :=
  ⟨rfl, fun r hr => by rw [List.eq_of_mem_replicate hr]; rfl⟩

theorem uniform_inRange : CellsInRange 4 8 (uniform 255) := by
  have key : ∀ x < 4, ∀ y < 8, 0 ≤ cellAt (uniform 255) y x ∧ cellAt (uniform 255) y x ≤ 255 := by decide
  exact fun x y hx hy => key x hx y hy

/-- The first pixel with its three targets, and the last with none. -/
theorem witness_DitherStepWritesKernel :
    Sized 4 8 (uniform 255) ∧ CellsInRange 4 8 (uniform 255) ∧ (0 < 4 ∧ 0 < 8 ∧ 0 + 1 < 4 ∧ 0 + 1 < 8) ∧ (3 < 4 ∧ 7 < 8) :=
  ⟨uniform_sized 255, uniform_inRange, by decide, by decide⟩

theorem witness_DitherCellsStayInRange : Sized 4 8 (uniform 255) ∧ CellsInRange 4 8 (uniform 255) :=
  ⟨uniform_sized 255, uniform_inRange⟩

theorem witness_DitherClosure : Sized 4 8 (uniform 255) ∧ CellsInRange 4 8 (uniform 255) ∧ 3 < 4 ∧ 7 < 8 :=
  ⟨uniform_sized 255, uniform_inRange, by decide, by decide⟩

theorem witness_LineBuffersGiveSameBits : Sized 4 8 (uniform 100) := uniform_sized 100

theorem witness_ThresholdIsPerPixel : Sized 4 8 (uniform 255) ∧ CellsInRange 4 8 (uniform 255) ∧ 0 < 4 ∧ 7 < 8 :=
  ⟨uniform_sized 255, uniform_inRange, by decide, by decide⟩

theorem witness_ConvertedPlaneInRange : 3 < (small 0 []).cfg.width ∧ 7 < (small 0 []).cfg.height := by decide

theorem witness_PackedBitIsPixel : ∀ i ∈ [0, 7], i < 8 := by decide

/-- K3, K4 and K5: both panels, the left only, the right only. -/
theorem witness_PanelsPartitionWindow :
    (63 : Byte).toNat ≤ (64 : Byte).toNat ∧ touches cfg128 ⟨63, 0, 64, 0⟩ .left = true ∧
    touches cfg128 ⟨63, 0, 64, 0⟩ .right = true ∧ touches cfg128 ⟨0, 0, 63, 0⟩ .right = false ∧
    touches cfg128 ⟨64, 0, 127, 0⟩ .left = false := by decide

/-- The full window, both panels. -/
theorem witness_LocalAddressesInRange :
    geometryOk cfg128 = true ∧ windowOk cfg128 ⟨0, 0, 127, 7⟩ = true ∧ touches cfg128 ⟨0, 0, 127, 7⟩ .left = true ∧
    touches cfg128 ⟨0, 0, 127, 7⟩ .right = true ∧ 7 ∈ windowPages ⟨0, 0, 127, 7⟩ := by decide

theorem witness_PixelAddressIsEven : (0xFFFFFFFE : Word).getLsbD 0 = false := by decide

/-- Two listed bytes, the second at address 0, past the top. -/
theorem witness_PixelReadIsLittleEndian :
    let s := { idle cfg128 with mem := [(0, 0x12), (0xFFFFFFFF, 0x34)] }
    s.unordered = [] ∧ memGet s.mem (0xFFFFFFFF : Word).toNat = some 0x34 ∧
    memGet s.mem ((0xFFFFFFFF : Word) + 1).toNat = some 0x12 := by decide

/-- A byte stored twice and one never stored; the block is idle before the fence. -/
theorem witness_RacingReadIsACandidate :
    let s := { small 0 [] with inputs := [.fence], unordered := [(5, 1), (5, 2)] }
    s.seq = .idle ∧ s.inputs = .fence :: [] ∧
    { s with inputs := [.store 6 7] }.inputs = .store 6 7 :: [] := ⟨rfl, rfl, rfl⟩

theorem witness_ResetValues :
    { emitting 0 .ok with inputs := [.reset false] }.inputs = .reset false :: [] := rfl

/-- After no event and after more events than there are, and a stuck FLUSH; the transaction runs before what follows it. -/
theorem witness_ResetCutsTransaction :
    let s := { small 0 [.fail 6 0] with inputs := [.resetDuring (wr 0x14 0xA5) 0 true, .fence] }
    let s' := { small 0 [.fail 6 0] with inputs := [.resetDuring (wr 0x14 0xA5) 99 false, .fence] }
    let f := { small 0 [] with cfg := { cfg4 with srcHoles := [(0, 0)] }, inputs := [.resetDuring (wr 0x08 0) 1 true] }
    (s.seq = .idle ∧ s'.seq = .idle ∧ decodeHost (wr 0x14 0xA5) = .ok (.busData .left 0xA5)) ∧
    (∃ u, exec (.busData .left 0xA5) { s with inputs := [.fence] } = .next u) ∧
    (∃ u, exec (.busData .left 0xA5) { s' with inputs := [.fence] } = .next u) ∧
    (f.seq = .idle ∧ decodeHost (wr 0x08 0) = .ok .flush) ∧
    ∃ a, exec .flush { f with inputs := [] } = .fault a :=
  ⟨⟨rfl, rfl, rfl⟩, ⟨_, rfl⟩, ⟨_, rfl⟩, ⟨rfl, rfl⟩, _, rfl⟩

/-- The bound is met with equality at 50 MHz. -/
theorem witness_WaitCyclesIsCeiling : 5000 * cfg128.clkHz ≤ 250 * 1000000000 := by decide

end Sys2Proof.Tests
end

/-! PROOFS. What holds at every byte boundary of an operation as well as between operations: no wait pending, the latch line
deasserted, RW at WRITE, an error record only with FIRST_ERR. Every bus operation keeps it. -/

namespace Sys2Proof.Machine

open Sys2Proof

/-- The part of `Inv` on the bus lines, DLY and the error record that no finished bus operation breaks, selected panel or
not (R54, R214, R223, R40, R41). -/
structure BusSettled (s : State) : Prop where
  dly     : s.dly = 0
  latch   : s.lines.e = .deasserted
  rw      : s.lines.rw = .write
  noError : s.firstErr = false → s.lineCode = 0 ∧ s.errInfo = ErrInfo.zero

/-- No panel is selected (R217). -/
structure Deselected (s : State) : Prop where
  cs0 : s.lines.cs0 = .deasserted
  cs1 : s.lines.cs1 = .deasserted

/-- The part of `Inv` on what no bus operation writes: FB_BASE, the window, the configuration and the source memory. -/
structure Stored (s : State) : Prop where
  fbBase : s.fbBase.getLsbD 0 = false
  window : s.winValid = true → windowOk s.cfg s.win = true
  cfgErr : s.cfgErr = cfgError s.cfg
  params : paramsLegal s.cfg = true
  memory : Memory.wf s.mem = true
  stores : ∀ c ∈ s.unordered, c.1 < 2 ^ 32

theorem inv_iff {s : State} : Inv s ↔ s.seq = .idle ∧ BusSettled s ∧ Deselected s ∧ Stored s :=
  ⟨fun h => ⟨h.idle, { h with }, { h with }, { h with }⟩, fun ⟨hi, hb, hd, hs⟩ => { hb, hd, hs with idle := hi }⟩

/-! ### A list of events -/

/-- RW keeps its level over events that do not name it. -/
theorem linesAfter_rw (l : Lines) (es : List BusEvent) (hes : ∀ v, .rw v ∉ es) : (linesAfter l es).rw = l.rw := by
  induction es generalizing l with
  | nil => rfl
  | cons e es ih =>
    obtain ⟨he, hes⟩ : (∀ v, e ≠ .rw v) ∧ ∀ v, .rw v ∉ es := by
      simpa [not_or, forall_and, eq_comm] using hes
    refine (ih (applyEvent l e) hes).trans ?_
    cases e with
    | cs i v => cases i <;> rfl
    | rw v => exact absurd rfl (he v)
    | mode | data | e | wait | fault => rfl

/-- DLY is counted out within each wait (R225), so it stays 0. -/
theorem dlyAfter_zero (p : Params) (e : BusEvent) : dlyAfter p 0 e = 0 := by
  cases e with
  | wait t => exact Nat.sub_self _
  | cs | mode | data | e | rw | fault => rfl

theorem driveAll_dly {s : State} (es : List BusEvent) (h : s.dly = 0) : (driveAll es s).dly = 0 :=
  List.foldlRecOn (motive := fun t : State => t.dly = 0) es _ h fun t ht e _ => by simp [ht, dlyAfter_zero]

theorem driveAll_errorRecord (es : List BusEvent) (s : State) :
    (driveAll es s).firstErr = s.firstErr ∧ (driveAll es s).lineCode = s.lineCode ∧
      (driveAll es s).errInfo = s.errInfo :=
  List.foldlRecOn (motive := fun t : State => t.firstErr = s.firstErr ∧ t.lineCode = s.lineCode ∧ t.errInfo = s.errInfo)
    es _ ⟨rfl, rfl, rfl⟩ fun _ ht _ _ => ht

theorem BusSettled.driveAll {s : State} (h : BusSettled s) {es : List BusEvent} (hrw : ∀ v, .rw v ∉ es)
    (he : (linesAfter s.lines es).e = .deasserted) : BusSettled (driveAll es s) := by
  obtain ⟨-, hlines⟩ := driveAll_drove es s
  obtain ⟨hfirst, hcode, hinfo⟩ := driveAll_errorRecord es s
  exact {
    dly := driveAll_dly es h.dly
    latch := hlines ▸ he
    rw := by rw [hlines, linesAfter_rw _ _ hrw, h.rw]
    noError := by rw [hfirst, hcode, hinfo]; exact h.noError }

/-! ### The bus operations -/

theorem BusSettled.chipSelect {s : State} (hs : BusSettled s) (h : Panel) : BusSettled (chipSelect h s) :=
  hs.driveAll (es := [.cs (otherPanel h) .deasserted, .cs h .asserted]) (by simp) (by cases h <;> exact hs.latch)

theorem BusSettled.deselectAll {s : State} (hs : BusSettled s) : BusSettled (deselectAll s) :=
  hs.driveAll (es := [.cs .left .deasserted, .cs .right .deasserted]) (by simp) hs.latch

theorem BusSettled.setMode {s : State} (hs : BusSettled s) (m : BusMode) : BusSettled (setMode m s) :=
  hs.driveAll (es := [.mode m]) (by simp) hs.latch

theorem rw_not_mem_byteEvents (p : Params) (b : Byte) (d : LineDraw) (v : RwLevel) : .rw v ∉ byteEvents p b d := by
  have hemit : .rw v ∉ emitEvents p b := by simp [emitEvents]
  cases d with
  | ok => exact hemit
  | fail c n => simpa [byteEvents, recoveryEvents] using fun h => hemit (List.mem_of_mem_take h)

/-- A byte ends with the latch line deasserted, by its own last events or by the recovery (R220, R223). -/
theorem linesAfter_byteEvents_e (l : Lines) (p : Params) (b : Byte) (d : LineDraw) :
    (linesAfter l (byteEvents p b d)).e = .deasserted := by
  cases d with
  | ok => rfl
  | fail c n => rw [byteEvents, linesAfter_append]; rfl

theorem BusSettled.takeDraw {s : State} (hs : BusSettled s) : BusSettled (takeDraw s) where
  dly := by simpa using hs.dly
  latch := by simpa using hs.latch
  rw := by simpa using hs.rw
  noError := by simpa using hs.noError

theorem BusSettled.emit {s : State} (hs : BusSettled s) (b : Byte) : BusSettled (emit b s) :=
  hs.takeDraw.driveAll (rw_not_mem_byteEvents _ _ _) (linesAfter_byteEvents_e _ _ _ _)

theorem BusSettled.raiseBusWrite {s : State} (hs : BusSettled s) (c : ByteCtx) (v : Byte) :
    BusSettled (raiseBusWrite c v s) where
  dly := by simpa using hs.dly
  latch := by simpa using hs.latch
  rw := by simpa using hs.rw
  noError := by simp

theorem BusSettled.emitByte {s : State} (hs : BusSettled s) (c : ByteCtx) (b : Byte) : BusSettled (emitByte c b s) := by
  unfold Machine.emitByte
  split
  · exact hs.emit b
  · exact (hs.emit b).raiseBusWrite _ _

/-- The sequencer is no part of it. -/
theorem BusSettled.seq {s : State} (hs : BusSettled s) (q : Seq) : BusSettled { s with seq := q } := { hs with }

theorem BusSettled.sendBytes {s : State} (hs : BusSettled s) (h : Panel) (page n k : Nat) (bs : List Byte) :
    BusSettled (sendBytes h page n k bs s).2 := by
  induction bs generalizing k s with
  | nil => exact hs
  | cons b bs ih =>
    have hbyte := (hs.seq (.emit page h k)).emitByte (transferCtx h page n k) b
    unfold Machine.sendBytes
    dsimp only
    split
    · exact ih hbyte (k + 1)
    · exact hbyte

theorem BusSettled.transfer {s : State} (hs : BusSettled s) (r : PageRecord) : BusSettled (transfer r s).2 := by
  have hcmd : BusSettled (sendCommands r s).2 := ((hs.chipSelect _).setMode _).sendBytes _ _ _ _ _
  unfold Machine.transfer
  split
  next _ heq => rw [heq] at hcmd; exact (hcmd.setMode _).sendBytes _ _ _ _ _
  next _ heq => rw [heq] at hcmd; exact hcmd

theorem BusSettled.emitPage {s : State} (hs : BusSettled s) (p : Nat) : BusSettled (emitPage s p) :=
  have htransfers := List.foldlRecOn (motive := BusSettled) (packRow s p) _ hs fun _ ht r _ => ht.transfer r
  (htransfers.seq (.rowEnd p)).deselectAll

theorem deselectAll_deselected (s : State) : Deselected (deselectAll s) := ⟨rfl, rfl⟩

/-! ### The operations -/

theorem BusSettled.emitPhase {s : State} (hs : BusSettled s) : BusSettled (emitPhase s) :=
  List.foldlRecOn (motive := BusSettled) (windowPages s.win) _ hs fun _ ht p _ => ht.emitPage p

/-- Every page ends with both panels deselected (R238). -/
theorem Deselected.emitPhase {s : State} (hs : Deselected s) : Deselected (emitPhase s) :=
  List.foldlRecOn (motive := Deselected) (windowPages s.win) _ hs fun _ _ _ _ => deselectAll_deselected _

theorem BusSettled.rawTransfer {s : State} (hs : BusSettled s) (h : Panel) (m : BusMode) (b : Byte) :
    BusSettled (rawTransfer h m b s) :=
  (((((hs.seq (.raw h m b)).chipSelect h).setMode m).emitByte (rawCtx h) b).deselectAll).seq .idle

theorem rawTransfer_deselected (h : Panel) (m : BusMode) (b : Byte) (s : State) : Deselected (rawTransfer h m b s) :=
  ⟨rfl, rfl⟩

theorem Stored.of_onlyBus {s t : State} (hs : Stored s) (h : OnlyBus s t) : Stored t := by
  obtain ⟨_, _, _, _, _, _, _, _, _, rfl⟩ := h
  exact { hs with }

end Sys2Proof.Machine

/-! PROOFS. Every step from a state between operations leaves one (O35): one lemma per host operation and per event, then
the two dispatches. -/

namespace Sys2Proof.Machine

open Sys2Proof

/-- If there is a next state, the invariant holds there. -/
def NextInv : Host.Outcome State Fault Refusal → Prop
  | .next t => Inv t
  | .fault _ => True
  | .refused _ => True

/-! ### The host operations -/

theorem Inv.answer {s : State} (hs : Inv s) (v : Word) : Inv (answer v s) := { hs with }

theorem Inv.startOp {s : State} (hs : Inv s) : Inv (startOp s) := { hs with noError := fun _ => ⟨rfl, rfl⟩ }

theorem Inv.failWith {s : State} (hs : Inv s) (c : ResultCode) : Inv (failWith c s) := { hs with }

/-- Bit 0 of FB_BASE is hardwired to 0 (R37). -/
theorem fbBaseOf_bit0 (d : Word) : (fbBaseOf d).getLsbD 0 = false := by
  unfold fbBaseOf
  rw [BitVec.getLsbD_append]
  rfl

theorem Inv.writeFbBase {s : State} (hs : Inv s) (d : Word) : Inv { s with fbBase := fbBaseOf d } :=
  { hs with fbBase := fbBaseOf_bit0 d }

theorem Inv.storeWindow {s : State} (hs : Inv s) (w : Window) : Inv (storeWindow w s) := by
  unfold Machine.storeWindow
  split
  next hok => exact { hs with window := fun _ => hok }
  next => exact { hs with window := fun h => absurd h Bool.false_ne_true }

/-- SET_WINDOW, BUS_CMD and BUS_DATA end in the gated CONFIG result or do their work after the operation start. -/
theorem Inv.gated {s : State} (hs : Inv s) {f : State → State} (hf : ∀ {u}, Inv u → Inv (f u)) :
    Inv (if (Machine.startOp s).cfgErr then Machine.failWith .config (Machine.startOp s) else f (Machine.startOp s)) := by
  split
  · exact hs.startOp.failWith .config
  · exact hf hs.startOp

/-- The end of a bus operation is between operations again, wherever the sequencer was before (R254, R260). -/
theorem finishOp_inv {s : State} (hb : BusSettled s) (hd : Deselected s) (hs : Stored s) : Inv (finishOp s) :=
  { hb, hd, hs with idle := rfl }

theorem finishFlush_inv {s : State} (hb : BusSettled s) (hd : Deselected s) (hs : Stored s) : Inv (finishFlush s) :=
  { finishOp_inv hb hd hs with }

theorem Inv.finishRaw {s : State} (hs : Inv s) (h : Panel) (m : BusMode) (b : Byte) :
    Inv (finishOp (rawTransfer h m b s)) := by
  obtain ⟨-, hbus, -, hstored⟩ := inv_iff.1 hs
  exact finishOp_inv (hbus.rawTransfer h m b) (rawTransfer_deselected h m b s)
    (hstored.of_onlyBus (rawTransfer_onlyBus h m b s))

/-- Before its emit phase a FLUSH writes the working memories, the sequencer and the FLUSH count only (R255, R256). -/
theorem phases_onlyWork (d : Bool) (s : State) : ∃ q I bp l0 l1, quantizePhase d (convertPhase s) =
    { s with seq := q, plane := I, bp := bp, lb0 := l0, lb1 := l1, flushCount := s.flushCount + 1 } := by
  obtain ⟨_, hconv⟩ := convertPhase_spec s
  obtain ⟨q, hquant⟩ := quantizePhase_spec d (convertPhase s)
  rw [hconv] at hquant ⊢
  exact ⟨q, _, _, _, _, hquant⟩

theorem Inv.flushRun {s : State} (hs : Inv s) : Inv (flushRun s) := by
  obtain ⟨-, hbus, hdes, hstored⟩ := inv_iff.1 hs
  obtain ⟨q, I, bp, l0, l1, hphases⟩ := phases_onlyWork s.dither s
  have hbus' : BusSettled (quantizePhase s.dither (convertPhase s)) := hphases ▸ { hbus with }
  have hdes' : Deselected (quantizePhase s.dither (convertPhase s)) := hphases ▸ { hdes with }
  have hstored' : Stored (quantizePhase s.dither (convertPhase s)) := hphases ▸ { hstored with }
  exact finishFlush_inv hbus'.emitPhase hdes'.emitPhase (hstored'.of_onlyBus (emitPhase_onlyBus _))

theorem Inv.execFlush {s : State} (hs : Inv s) : NextInv (execFlush s) := by
  unfold Machine.execFlush
  dsimp only
  split_ifs with hcfg hwin
  · exact hs.startOp.failWith .config
  · exact hs.startOp.failWith .noWindow
  · split
    next => trivial
    next => exact hs.startOp.flushRun

/-! ### The dispatch of instructions -/

/-- The block emits no byte between operations (R121). -/
theorem flushByte_idle {s : State} (h : s.seq = .idle) (b : Byte) : flushByte b s = .refused .notEmitting := by
  simp [flushByte, h]

theorem rawByte_idle {s : State} (h : s.seq = .idle) (m : BusMode) (b : Byte) :
    rawByte m b s = .refused .notEmitting := by
  simp [rawByte, h]

theorem Inv.flushByte {s : State} (hs : Inv s) (b : Byte) : NextInv (flushByte b s) := by
  rw [flushByte_idle hs.idle]; trivial

theorem Inv.rawByte {s : State} (hs : Inv s) (m : BusMode) (b : Byte) : NextInv (rawByte m b s) := by
  rw [rawByte_idle hs.idle]; trivial

theorem Inv.exec {s : State} (hs : Inv s) (i : Instr) : NextInv (exec i s) := by
  cases i with
  | rdCtrl | rdWindow | rdFlush | rdFbBase | rdBusCmd | rdBusData | rdStatus | rdErrInfo | rdGeom | rdUnmapped =>
    exact hs.answer _
  | wrStatus | wrErrInfo | wrGeom | wrUnmapped => exact hs
  | wrCtrl => exact { hs with }
  | wrFbBase addr => exact hs.writeFbBase addr
  | setWindow => exact hs.gated fun hu => hu.storeWindow _
  | flush => exact hs.execFlush
  | busCmd h b => exact hs.gated fun hu => hu.finishRaw h .cmd b
  | busData h b => exact hs.gated fun hu => hu.finishRaw h .data b
  | displayOn | setColumn | setPage | pageData => exact hs.flushByte _
  | rawCmd | rawData => exact hs.rawByte _ _

/-! ### The events -/

/-- What the host and the platform do next is no part of the invariant. -/
theorem Inv.inputs {s : State} (hs : Inv s) (ins : List HostEvent) : Inv { s with inputs := ins } := { hs with }

/-- A reset needs only the parameters and the source memory to be legal before it (R330, R331, R333). -/
theorem hwReset_inv (l : Bool) {s : State} (hparams : paramsLegal s.cfg = true) (hmem : Memory.wf s.mem = true)
    (hstores : ∀ c ∈ s.unordered, c.1 < 2 ^ 32) : Inv (hwReset l s) where
  idle := rfl
  dly := rfl
  latch := rfl
  rw := rfl
  cs0 := rfl
  cs1 := rfl
  fbBase := by simp
  window h := absurd h Bool.false_ne_true
  noError _ := ⟨rfl, rfl⟩
  cfgErr := rfl
  params := hparams
  memory := hmem
  stores := hstores

theorem Inv.hwReset {s : State} (hs : Inv s) (l : Bool) : Inv (hwReset l s) :=
  hwReset_inv l hs.params hs.memory hs.stores

theorem Inv.hostStore {s : State} (hs : Inv s) (a : Word) (b : Byte) : Inv (hostStore a b s) :=
  { hs with
    stores := by
      intro c hc
      obtain hc | rfl := by simpa using hc
      · exact hs.stores c hc
      · exact a.isLt }

theorem Inv.hostFence {s : State} (hs : Inv s) : Inv (hostFence s) :=
  { hs with
    memory := memSets_wf s.unordered hs.stores s.mem hs.memory
    stores := by simp }

theorem Inv.runAccess {s : State} (hs : Inv s) (t : Transaction) : NextInv (runAccess t s) := by
  unfold Machine.runAccess
  split
  next => trivial
  next i _ => exact hs.exec i

/-- The cut transaction's last state counts by its configuration and source memory alone (R332). -/
theorem Inv.cutAccess {s : State} (hs : Inv s) (t : Transaction) (n : Nat) (l : Bool) : NextInv (cutAccess t n l s) := by
  have hrun := hs.runAccess t
  unfold Machine.cutAccess
  split
  next _ hnext =>
    rw [hnext] at hrun
    exact hwReset_inv l hrun.params hrun.memory hrun.stores
  next => exact hs.hwReset l
  next => trivial

/-- An idle block with nothing to run waits (R336). -/
theorem busyStep_idle {s : State} (h : s.seq = .idle) : busyStep s = .next s := by
  simp [busyStep, h]

theorem Inv.step {s : State} (hs : Inv s) : NextInv (step s) := by
  unfold Machine.step nextEvent
  split
  next => rw [busyStep_idle hs.idle]; exact hs
  next => trivial
  next l rest _ => exact (hs.inputs rest).hwReset l
  next a b rest _ => exact (hs.inputs rest).hostStore a b
  next rest _ => rw [if_pos hs.idle]; exact (hs.inputs rest).hostFence
  next t rest _ => rw [if_pos hs.idle]; exact (hs.inputs rest).runAccess t
  next t n l rest _ => rw [if_pos hs.idle]; exact (hs.inputs rest).cutAccess t n l

/-! ### The obligations -/

/-- Settles O35: the invariant is kept by each kind of event, and a transaction's instruction by each kind of operation. -/
theorem everyStepKeepsInv : Obligations.EveryStepKeepsInv := by
  intro s t hs hstep
  have hnext : NextInv (step s) := hs.step
  rwa [hstep] at hnext

/-- Settles O5, by the branch of the next event that an idle block with a decodable transaction takes. -/
theorem stepRunsDecodedAccess : Obligations.StepRunsDecodedAccess := by
  intro s t rest i hidle hinputs hdecode
  simp [step, nextEvent, runAccess, hidle, hinputs, hdecode]

end Sys2Proof.Machine

/-! PROOFS. What an instruction can write, said once for every instruction (`ExecWrites`), and the statements on single
writers that follow from it (O38, O39). -/

namespace Sys2Proof.Machine

open Sys2Proof

/-! ### The bytes the block emits -/

theorem driveAll_seq (es : List BusEvent) (s : State) : (driveAll es s).seq = s.seq :=
  List.foldlRecOn (motive := fun t : State => t.seq = s.seq) es _ rfl fun _ ht _ _ => ht

/-- An emitted byte leaves the sequencer at its position. -/
@[simp] theorem emitByte_seq (c : ByteCtx) (b : Byte) (s : State) : (emitByte c b s).seq = s.seq := by
  unfold emitByte
  split <;> simp [emit, driveAll_seq]

/-- What a byte form may write: the bus, the error record and the line layer's answers, not the sequencer. -/
def OnlyByte (s t : State) : Prop := OnlyBus s t ∧ t.seq = s.seq

theorem emitByte_onlyByte (c : ByteCtx) (b : Byte) (s : State) : OnlyByte s (emitByte c b s) :=
  ⟨emitByte_onlyBus c b s, emitByte_seq c b s⟩

theorem flushByte_onlyByte {b : Byte} {s t : State} (h : flushByte b s = .next t) : OnlyByte s t := by
  unfold flushByte at h
  split at h
  · cases h; exact emitByte_onlyByte _ b s
  · cases h

theorem rawByte_onlyByte {m : BusMode} {b : Byte} {s t : State} (h : rawByte m b s = .next t) : OnlyByte s t := by
  unfold rawByte at h
  split at h
  · split at h
    · cases h; exact emitByte_onlyByte _ b s
    · cases h
  · cases h

/-! ### The operations -/

/-- What BUS_CMD and BUS_DATA may write: what the bus operations write, and LAST_CODE. -/
def OnlyRaw (s t : State) : Prop := ∃ c, OnlyBus { s with lastCode := c } t

/-- What FLUSH may write: what the bus operations write, LAST_CODE, the working memories and the model's two counters. -/
def OnlyFlush (s t : State) : Prop :=
  ∃ c plane lb0 lb1 bp flushCount workCount,
    OnlyBus { s with lastCode := c, plane := plane, lb0 := lb0, lb1 := lb1, bp := bp, flushCount := flushCount,
                     workCount := workCount } t

/-- What SET_WINDOW may write: the error record, WIN, WIN_VALID and LAST_CODE. -/
def OnlyWindow (s t : State) : Prop :=
  ∃ w v c, t = { startOp s with win := w, winValid := v, lastCode := c }

theorem startOp_onlyBus (s : State) : OnlyBus s (startOp s) :=
  ⟨s.lines, s.trace, s.seq, s.dly, false, 0, ErrInfo.zero, s.lineDraws, s.drawCount, rfl⟩

/-- LAST_CODE is no field of the bus: written at the end, it may as well have been written at the start. -/
theorem OnlyBus.lastCode {s t : State} (h : OnlyBus s t) (c : ResultCode) :
    OnlyBus { s with lastCode := c } { t with lastCode := c } := by
  obtain ⟨l, tr, q, d, f, lc, e, ld, dc, rfl⟩ := h
  exact ⟨l, tr, q, d, f, lc, e, ld, dc, rfl⟩

theorem finishOp_onlyRaw {s t : State} (h : OnlyBus s t) : OnlyRaw s (finishOp t) :=
  ⟨busResult t.firstErr, (h.lastCode _).seq .idle⟩

theorem failWith_onlyRaw (c : ResultCode) (s : State) : OnlyRaw s (failWith c (startOp s)) :=
  ⟨c, (startOp_onlyBus s).lastCode c⟩

/-- BUS_CMD and BUS_DATA end in the gated CONFIG result or run their byte after the operation start. -/
theorem rawOp_onlyRaw (h : Panel) (m : BusMode) (b : Byte) (s : State) :
    OnlyRaw s (if (startOp s).cfgErr then failWith .config (startOp s)
      else finishOp (rawTransfer h m b (startOp s))) := by
  split
  · exact failWith_onlyRaw .config s
  · exact finishOp_onlyRaw ((startOp_onlyBus s).trans (rawTransfer_onlyBus h m b _))

theorem OnlyRaw.onlyFlush {s t : State} (h : OnlyRaw s t) : OnlyFlush s t :=
  let ⟨c, hbus⟩ := h
  ⟨c, s.plane, s.lb0, s.lb1, s.bp, s.flushCount, s.workCount, hbus⟩

theorem flushRun_onlyFlush (s : State) : OnlyFlush s (flushRun (startOp s)) := by
  obtain ⟨q, I, bp, l0, l1, hphases⟩ := phases_onlyWork (startOp s).dither (startOp s)
  obtain ⟨l, tr, q', d, f, lc, e, ld, dc, hbus⟩ :=
    emitPhase_onlyBus (quantizePhase (startOp s).dither (convertPhase (startOp s)))
  rw [hphases] at hbus
  unfold flushRun
  rw [hphases, hbus]
  exact ⟨_, _, _, _, _, _, _, l, tr, .idle, d, f, lc, e, ld, dc, rfl⟩

theorem execFlush_onlyFlush {s t : State} (h : execFlush s = .next t) : OnlyFlush s t := by
  unfold execFlush at h
  dsimp only at h
  split_ifs at h with hcfg hwin
  · cases h; exact (failWith_onlyRaw .config s).onlyFlush
  · cases h; exact (failWith_onlyRaw .noWindow s).onlyFlush
  · split at h
    · cases h
    · cases h; exact flushRun_onlyFlush s

theorem storeWindow_onlyWindow (w : Window) (s : State) : OnlyWindow s (storeWindow w (startOp s)) := by
  unfold storeWindow
  split
  · exact ⟨w, true, .ok, rfl⟩
  · exact ⟨s.win, false, .invalidWindow, rfl⟩

theorem setWindowOp_onlyWindow (w : Window) (s : State) :
    OnlyWindow s (if (startOp s).cfgErr then failWith .config (startOp s) else storeWindow w (startOp s)) := by
  split
  · exact ⟨s.win, s.winValid, .config, rfl⟩
  · exact storeWindow_onlyWindow w s

/-! ### Every instruction -/

/-- What each instruction may write when it has a next state `t` (R250, R121): a host read its answer, a register write its
register, an operation and an emitted byte the fields above. -/
def ExecWrites (s t : State) : Instr → Prop
  | .wrCtrl dither neg => t = { s with dither := dither, neg := neg }
  | .wrFbBase addr => t = { s with fbBase := fbBaseOf addr }
  | .setWindow _ _ _ _ => OnlyWindow s t
  | .flush => OnlyFlush s t
  | .busCmd _ _ | .busData _ _ => OnlyRaw s t
  | .displayOn | .setColumn _ | .setPage _ | .pageData _ | .rawCmd _ | .rawData _ => OnlyByte s t
  | _ => ∃ log, t = { s with readLog := log }

theorem exec_writes {i : Instr} {s t : State} (h : exec i s = .next t) : ExecWrites s t i := by
  cases i with
  | rdCtrl | rdWindow | rdFlush | rdFbBase | rdBusCmd | rdBusData | rdStatus | rdErrInfo | rdGeom | rdUnmapped =>
    cases h; exact ⟨_, rfl⟩
  | wrStatus | wrErrInfo | wrGeom | wrUnmapped => cases h; exact ⟨s.readLog, rfl⟩
  | wrCtrl | wrFbBase => cases h; rfl
  | setWindow => cases h; exact setWindowOp_onlyWindow _ s
  | flush => exact execFlush_onlyFlush h
  | busCmd p b => cases h; exact rawOp_onlyRaw p .cmd b s
  | busData p b => cases h; exact rawOp_onlyRaw p .data b s
  | displayOn | setColumn | setPage | pageData => exact flushByte_onlyByte h
  | rawCmd | rawData => exact rawByte_onlyByte h

/-! ### The fields an operation leaves alone -/

/-- WIN with WIN_VALID, CTRL and FB_BASE are those of `s` (R32, R33, R35 to R37). -/
def SameRegisters (s t : State) : Prop :=
  (t.win = s.win ∧ t.winValid = s.winValid) ∧ (t.dither = s.dither ∧ t.neg = s.neg) ∧ t.fbBase = s.fbBase

/-- The working memories are those of `s` (R47 to R49). -/
def SameWork (s t : State) : Prop := t.plane = s.plane ∧ t.lb0 = s.lb0 ∧ t.lb1 = s.lb1 ∧ t.bp = s.bp

theorem OnlyBus.sameRegisters {s t : State} (h : OnlyBus s t) : SameRegisters s t := by
  obtain ⟨_, _, _, _, _, _, _, _, _, rfl⟩ := h
  exact ⟨⟨rfl, rfl⟩, ⟨rfl, rfl⟩, rfl⟩

theorem OnlyBus.sameWork {s t : State} (h : OnlyBus s t) : SameWork s t := by
  obtain ⟨_, _, _, _, _, _, _, _, _, rfl⟩ := h
  exact ⟨rfl, rfl, rfl, rfl⟩

theorem OnlyBus.lastCode_eq {s t : State} (h : OnlyBus s t) : t.lastCode = s.lastCode := by
  obtain ⟨_, _, _, _, _, _, _, _, _, rfl⟩ := h
  rfl

theorem OnlyBus.cfg_win {s t : State} (h : OnlyBus s t) : t.cfg = s.cfg ∧ t.win = s.win := by
  obtain ⟨_, _, _, _, _, _, _, _, _, rfl⟩ := h
  exact ⟨rfl, rfl⟩

theorem OnlyRaw.sameWork {s t : State} (h : OnlyRaw s t) : SameWork s t :=
  let ⟨_, hbus⟩ := h
  hbus.sameWork

theorem OnlyFlush.sameRegisters {s t : State} (h : OnlyFlush s t) : SameRegisters s t :=
  let ⟨_, _, _, _, _, _, _, hbus⟩ := h
  hbus.sameRegisters

/-- Each register is kept by every instruction but the one that writes it. -/
theorem exec_sameRegisters {i : Instr} {s t : State} (h : exec i s = .next t)
    (hwin : ∀ xs ys xe ye, i ≠ .setWindow xs ys xe ye) (hctrl : ∀ d n, i ≠ .wrCtrl d n) (hfb : ∀ a, i ≠ .wrFbBase a) :
    SameRegisters s t := by
  have hw := exec_writes h
  cases i with
  | setWindow => exact absurd rfl (hwin _ _ _ _)
  | wrCtrl => exact absurd rfl (hctrl _ _)
  | wrFbBase => exact absurd rfl (hfb _)
  | flush => exact hw.sameRegisters
  | busCmd | busData => exact hw.onlyFlush.sameRegisters
  | displayOn | setColumn | setPage | pageData | rawCmd | rawData => exact hw.1.sameRegisters
  | _ => obtain ⟨log, rfl⟩ := hw; exact ⟨⟨rfl, rfl⟩, ⟨rfl, rfl⟩, rfl⟩

/-! ### The obligations -/

/-- Settles O38, by what each instruction may write: WIN, CTRL and FB_BASE stand among the writes of one each. -/
theorem registersHaveOneWriter : Obligations.RegistersHaveOneWriter := by
  intro i s t h
  have hw := exec_writes h
  cases i with
  | setWindow =>
    obtain ⟨w, v, c, rfl⟩ := hw
    exact ⟨fun hne => absurd rfl (hne _ _ _ _), fun _ => ⟨rfl, rfl⟩, fun _ => rfl⟩
  | wrCtrl => cases hw; exact ⟨fun _ => ⟨rfl, rfl⟩, fun hne => absurd rfl (hne _ _), fun _ => rfl⟩
  | wrFbBase => cases hw; exact ⟨fun _ => ⟨rfl, rfl⟩, fun _ => ⟨rfl, rfl⟩, fun hne => absurd rfl (hne _)⟩
  | _ =>
    obtain ⟨hwin, hctrl, hfb⟩ := exec_sameRegisters h (by simp) (by simp) (by simp)
    exact ⟨fun _ => hwin, fun _ => hctrl, fun _ => hfb⟩

/-- Settles O39, by what each instruction may write: outside the operations only the emitted bytes touch the bus, and outside
FLUSH nothing touches the working memories. -/
theorem statusAndBusWriters : Obligations.StatusAndBusWriters := by
  intro i s t h
  have hw := exec_writes h
  cases i with
  | setWindow =>
    obtain ⟨w, v, c, rfl⟩ := hw
    exact ⟨fun ⟨hne, _⟩ => absurd rfl (hne _ _ _ _), fun _ => ⟨rfl, rfl, rfl, rfl⟩⟩
  | flush => exact ⟨fun ⟨_, hne, _⟩ => absurd rfl hne, fun hne => absurd rfl hne⟩
  | busCmd => exact ⟨fun ⟨_, _, hne, _⟩ => absurd rfl (hne _ _), fun _ => hw.sameWork⟩
  | busData => exact ⟨fun ⟨_, _, _, hne⟩ => absurd rfl (hne _ _), fun _ => hw.sameWork⟩
  | displayOn | setColumn | setPage | pageData | rawCmd | rawData =>
    obtain ⟨hbus, hseq⟩ := hw
    exact ⟨fun _ => ⟨hbus.lastCode_eq, hseq, fun hne => by simp at hne⟩, fun _ => hbus.sameWork⟩
  | wrCtrl | wrFbBase =>
    cases hw
    exact ⟨fun _ => ⟨rfl, rfl, fun _ => ⟨rfl, rfl, rfl, rfl, rfl, rfl⟩⟩, fun _ => ⟨rfl, rfl, rfl, rfl⟩⟩
  | _ =>
    obtain ⟨log, rfl⟩ := hw
    exact ⟨fun _ => ⟨rfl, rfl, fun _ => ⟨rfl, rfl, rfl, rfl, rfl, rfl⟩⟩, fun _ => ⟨rfl, rfl, rfl, rfl⟩⟩

end Sys2Proof.Machine

/-! PROOFS. The step at each position inside an operation (O6): what the position's own operation does, then the move to the
next position. -/

namespace Sys2Proof.Machine

open Sys2Proof

/-- With no event pending, a step is one of the operation in progress. -/
theorem step_of_no_inputs {s : State} (h : s.inputs = []) : step s = busyStep s := by
  simp [step, nextEvent, h]

/-! ### A page begins -/

/-- Events other than waits change the lines and the trace alone (R211). -/
theorem driveAll_eq {es : List BusEvent} (hes : ∀ t, .wait t ∉ es) (s : State) :
    driveAll es s = { s with lines := linesAfter s.lines es, trace := s.trace ++ es } := by
  induction es generalizing s with
  | nil => simp [driveAll, linesAfter]
  | cons e es ih =>
    obtain ⟨he, hes⟩ : (∀ t, e ≠ .wait t) ∧ ∀ t, .wait t ∉ es := by
      simpa [not_or, forall_and, eq_comm] using hes
    have hdly : dlyAfter s.cfg s.dly e = s.dly := by
      cases e with
      | wait t => exact absurd rfl (he t)
      | cs | mode | data | e | rw | fault => rfl
    refine (ih hes (drive e s)).trans ?_
    simp [drive, hdly, linesAfter]

theorem deselectAll_eq (s : State) : deselectAll s =
    { s with
      lines := linesAfter s.lines [.cs .left .deasserted, .cs .right .deasserted]
      trace := s.trace ++ [.cs .left .deasserted, .cs .right .deasserted] } :=
  driveAll_eq (es := [.cs .left .deasserted, .cs .right .deasserted]) (by simp) s

theorem touches_left_iff (p : Params) (w : Window) : touches p w .left = true ↔ w.xs.toNat < p.width / 2 :=
  decide_eq_true_iff

theorem touches_right_iff (p : Params) (w : Window) : touches p w .right = true ↔ p.width / 2 ≤ w.xe.toNat :=
  decide_eq_true_iff

theorem wait_not_mem_pageEntryEvents (p : Params) (w : Window) (t : Delay) : .wait t ∉ pageEntryEvents p w := by
  unfold pageEntryEvents
  split_ifs <;> simp

/-- A page begins with CHIP_SELECT and SET_MODE(CMD) of its first transfer, or with ROWEND when the window touches no panel
(R230, R257). -/
theorem enterPage_eq (p : Nat) (s : State) : enterPage p s =
    { s with
      lines := linesAfter s.lines (pageEntryEvents s.cfg s.win), seq := pageEntry s.cfg s.win p
      trace := s.trace ++ pageEntryEvents s.cfg s.win } := by
  have hdrive : enterPage p s = { driveAll (pageEntryEvents s.cfg s.win) s with seq := pageEntry s.cfg s.win p } := by
    simp only [enterPage, touches_left_iff, touches_right_iff, pageEntry, pageEntryEvents]
    split_ifs <;> rfl
  rw [hdrive, driveAll_eq (wait_not_mem_pageEntryEvents s.cfg s.win)]

/-! ### The transfers -/

theorem windowColumns_length (p : Params) (w : Window) (h : Panel) :
    (windowColumns p w h).length = lastColumn p w h + 1 - firstColumn p w h := by
  simp [windowColumns]

theorem failCode_isSome (d : LineDraw) : (failCode d).isSome = true ↔ d ≠ .ok := by
  cases d <;> simp [failCode]

/-- The byte of position 3 + j is the packed column j of the transfer (R194, R236). -/
theorem byteForm_pageData {s : State} {h : Panel} {j : Nat} (p : Nat)
    (hj : firstColumn s.cfg s.win h + j ≤ lastColumn s.cfg s.win h) :
    byteForm s p h (3 + j) = some (.pageData (packByte s.bp s.neg (firstColumn s.cfg s.win h + j) p)) := by
  have hlen : j < lastColumn s.cfg s.win h + 1 - firstColumn s.cfg s.win h := by omega
  rw [Nat.add_comm]
  simp [byteForm, panelBytes, windowColumns, hlen]

/-- A position emits one of the byte forms, so it may write what they may. -/
theorem byteForm_onlyByte {s t : State} {p k : Nat} {h : Panel} {i : Instr} (hform : byteForm s p h k = some i)
    (hexec : exec i s = .next t) : OnlyByte s t := by
  have hw := exec_writes hexec
  unfold byteForm at hform
  split at hform
  case h_4 =>
    obtain ⟨b, -, rfl⟩ := Option.map_eq_some_iff.1 hform
    exact hw
  all_goals
    cases hform
    exact hw

theorem afterByte_eq (p : Nat) (h : Panel) (k : Nat) (d : LineDraw) (s : State) :
    afterByte p h k (failCode d).isSome s =
      if d ≠ .ok ∨ k + 1 = 3 + (lastColumn s.cfg s.win h + 1 - firstColumn s.cfg s.win h) then
        (if h = .left ∧ s.cfg.width / 2 ≤ s.win.xe.toNat then
          { setMode .cmd (chipSelect .right s) with seq := .emit p .right 0 }
        else { s with seq := .rowEnd p })
      else if k = 2 then { setMode .data s with seq := .emit p h 3 }
      else { s with seq := .emit p h (k + 1) } := by
  simp only [afterByte, afterTransfer, enterTransfer, touches_right_iff, windowColumns_length, failCode_isSome,
    Bool.or_eq_true, beq_iff_eq]

/-- EMIT(p, h, k): the position's byte runs, then the sequencer moves on from the state it leaves (R230, R237). -/
theorem step_emit {s t : State} {p k : Nat} {h : Panel} {i : Instr} (hseq : s.seq = .emit p h k) (hin : s.inputs = [])
    (hform : byteForm s p h k = some i) (hexec : exec i s = .next t) :
    step s = .next (afterByte p h k (failCode (nextDraw s)).isSome t) := by
  simp [step_of_no_inputs hin, busyStep, hseq, hform, hexec]

/-! ### The positions of a pixel -/

theorem stuckPixel_none {s : State} {y x : Nat} (h0 : admitted s.cfg (pixAddr s.cfg s.fbBase x y).toNat = true)
    (h1 : admitted s.cfg (pixAddr s.cfg s.fbBase x y + 1).toNat = true) : stuckPixel s y x = none := by
  simp only [stuckPixel, h0, h1, Bool.true_eq_false, if_false]

theorem step_convert {s : State} {y x : Nat} (hseq : s.seq = .convert y x) (hin : s.inputs = []) (hx : x < s.cfg.width)
    (hy : y < s.cfg.height) (hstuck : stuckPixel s y x = none) : step s = .next (convertAt y x s) := by
  simp [step_of_no_inputs hin, busyStep, hseq, inPlane, hx, hy, hstuck]

theorem convertPixel_toInt (s : State) (y x : Nat) : (convertPixel s y x).toInt =
    ((convert s.cfg s.gamma (memRead16 s (pixAddr s.cfg s.fbBase x y))).toNat : Int) := by
  rw [convertPixel, BitVec.zeroExtend, BitVec.toInt_setWidth]
  exact Int.bmod_eq_of_le (by omega) (by omega)

/-- CONVERT(y, x) writes its cell, no other (R255). -/
theorem cellAt_convertAt {s : State} {y x : Nat} (hI : Sized s.cfg.width s.cfg.height s.plane) (hx : x < s.cfg.width)
    (hy : y < s.cfg.height) (x' y' : Nat) : cellAt (convertAt y x s).plane y' x' =
      if x' = x ∧ y' = y then ((convert s.cfg s.gamma (memRead16 s (pixAddr s.cfg s.fbBase x y))).toNat : Int)
      else cellAt s.plane y' x' := by
  have hcell : storedAt (convertAt y x s).plane y' x' = _ := storedAt_putCell (convertPixel s) hI hx hy x' y'
  change (storedAt _ y' x').toInt = _
  simp only [hcell, Prod.mk.injEq]
  split_ifs with hq
  · obtain ⟨rfl, rfl⟩ := hq
    exact convertPixel_toInt s y' x'
  · rfl

theorem step_dither {s : State} {y x : Nat} (hseq : s.seq = .dither y x) (hin : s.inputs = []) (hx : x < s.cfg.width)
    (hy : y < s.cfg.height) : step s = .next (ditherAt y x s) := by
  simp [step_of_no_inputs hin, busyStep, hseq, inPlane, hx, hy]

theorem mirrorLines_eq (y : Nat) (s : State) : ∃ l0 l1, mirrorLines y s = { s with lb0 := l0, lb1 := l1 } := by
  unfold mirrorLines
  dsimp only
  split
  · exact ⟨_, _, rfl⟩
  · exact ⟨_, _, rfl⟩

/-- DITHER(y, x) runs the step of the mode; the line buffers mirror it. After the last pixel BP is written and the first page
begins, after any other the next pixel follows (R170, R176, R178). -/
theorem ditherAt_eq (y x : Nat) (s : State) : ∃ l0 l1, ditherAt y x s =
    let t := { quantizeCell s.dither s (x, y) with lb0 := l0, lb1 := l1 }
    if lastPixel s.cfg y x then enterPage s.win.ysPage.toNat { t with bp := planeBits t.plane }
    else { t with seq := nextPixel s.cfg .dither s.seq y x } := by
  by_cases hd : s.dither = true
  · obtain ⟨l0, l1, hmirror⟩ := mirrorLines_eq y (quantizeCell s.dither s (x, y))
    refine ⟨l0, l1, ?_⟩
    simp only [ditherAt, if_pos hd, hmirror]
  · refine ⟨s.lb0, s.lb1, ?_⟩
    simp only [ditherAt, if_neg hd]
    rfl

/-! ### The ends of a page and of a raw transfer -/

theorem step_rowEnd {s : State} {p : Nat} (hseq : s.seq = .rowEnd p) (hin : s.inputs = []) :
    step s = .next (rowEndAt p s) := by
  simp [step_of_no_inputs hin, busyStep, hseq]

theorem step_raw {s t : State} {h : Panel} {m : BusMode} {b : Byte} (hseq : s.seq = .raw h m b) (hin : s.inputs = [])
    (hexec : exec (rawForm m b) (setMode m (chipSelect h s)) = .next t) :
    step s = .next (finishOp (deselectAll t)) := by
  simp [step_of_no_inputs hin, busyStep, hseq, hexec]

/-! ### The obligation -/

/-- Settles O6, position by position: the step of each is known, and what remains is where the sequencer goes. -/
theorem stepRunsEmittedByte : Obligations.StepRunsEmittedByte := by
  refine ⟨?emit, ?raw, ?convert, ?dither, ?rowEnd⟩
  case emit =>
    intro s t p h k first last start i hseq hin hcolumns hbyte hexec
    obtain ⟨rfl, rfl, rfl⟩ : first = firstColumn s.cfg s.win h ∧ last = lastColumn s.cfg s.win h ∧
        start = columnStart s.cfg s.win h := by
      rcases hcolumns with ⟨rfl, rfl, rfl, rfl⟩ | ⟨rfl, rfl, rfl, rfl⟩ <;> exact ⟨rfl, rfl, rfl⟩
    have hform : byteForm s p h k = some i := by
      rcases hbyte with ⟨rfl, rfl⟩ | ⟨rfl, rfl⟩ | ⟨rfl, rfl⟩ | ⟨j, rfl, hj, rfl⟩
      · rfl
      · rfl
      · rfl
      · exact byteForm_pageData p hj
    obtain ⟨hcfg, hwin⟩ := (byteForm_onlyByte hform hexec).1.cfg_win
    rw [step_emit hseq hin hform hexec, afterByte_eq, hcfg, hwin]
  case raw =>
    intro s t h m b hseq hin hexec
    exact step_raw hseq hin (by cases m <;> exact hexec)
  case convert =>
    intro s y x hseq hin hx hy h0 h1
    exact ⟨convertAt y x s, step_convert hseq hin hx hy (stuckPixel_none h0 h1), rfl,
      fun hI => cellAt_convertAt hI hx hy⟩
  case dither =>
    rintro s y x I hseq hin hx hy rfl
    obtain ⟨l0, l1, hdither⟩ := ditherAt_eq y x s
    refine ⟨ditherAt y x s, step_dither hseq hin hx hy, fun hnext => ?_, fun hrow hnext => ?_, fun hrow hlast => ?_⟩
    · have hmid : lastPixel s.cfg y x = false := by simp [lastPixel, hnext.ne]
      simp only [hdither, hmid, nextPixel, if_pos hnext]
      rfl
    · have hmid : lastPixel s.cfg y x = false := by simp [lastPixel, hnext.ne]
      simp only [hdither, hmid, nextPixel, if_neg hrow.not_lt, if_pos hnext]
      rfl
    · have hend : lastPixel s.cfg y x = true := by simp [lastPixel, hrow, hlast]
      simp only [hdither, hend, enterPage_eq]
      rfl
  case rowEnd =>
    intro s p hseq hin
    refine ⟨rowEndAt p s, step_rowEnd hseq hin, fun hnext => ?_, fun hlast => ?_⟩
    · rw [rowEndAt, if_pos (Nat.succ_le_of_lt hnext), enterPage_eq, deselectAll_eq]
    · rw [rowEndAt, if_neg (by omega), deselectAll_eq]
      rfl

end Sys2Proof.Machine

/-! PROOFS. The source memory (20_memory.md): the pixel addresses and byte order (O53, O54), what a racing read, a host store
and the fence do (O55), the stuck FLUSH (O21) and what no instruction writes (O37). -/

namespace Sys2Proof.Machine

open Sys2Proof

/-! ### Pixel addresses and byte order -/

/-- The address arithmetic wraps once, at the end (R75, R79). -/
theorem pixAddr_toNat (p : Params) (base : Word) (x y : Nat) :
    (pixAddr p base x y).toNat = (base.toNat + 2 * (y * p.width + x)) % 2 ^ 32 := by
  rw [pixAddr, BitVec.toNat_add, BitVec.toNat_ofNat, Nat.add_mod_mod]

/-- Settles O53: the offset of a pixel and the wrap are both even. -/
theorem pixelAddressIsEven : Obligations.PixelAddressIsEven := by
  refine fun p base x y => ⟨pixAddr_toNat p base x y, fun hbit => ?_⟩
  have hbase : base.toNat % 2 = 0 := by simpa [BitVec.getLsbD, Nat.testBit_zero] using hbit
  rw [pixAddr_toNat]
  omega

/-- Where no store is pending, a listed byte reads as listed (R78). -/
theorem memReadByte_listed {s : State} {a : Nat} {b : Byte} (hnone : s.unordered = []) (hlisted : memGet s.mem a = some b) :
    memReadByte s a = b :=
  (memReadByte_no_race s a (racingBytes_nil s a hnone)).trans (startByte_listed s a b hlisted)

/-- Settles O54: the byte at the higher address is the upper half of the halfword. -/
theorem pixelReadIsLittleEndian : Obligations.PixelReadIsLittleEndian := by
  intro s a lo hi hnone hlo hhi
  rw [memRead16, memReadByte_listed hnone hlo, memReadByte_listed hnone hhi]
  exact ⟨BitVec.extractLsb'_append_eq_right, BitVec.extractLsb'_append_eq_left⟩

/-! ### Racing reads, host stores and the fence -/

theorem mem_racingBytes {s : State} {a : Nat} {b : Byte} : b ∈ racingBytes s a ↔ (a, b) ∈ s.unordered := by
  simp [racingBytes]

/-- Whatever the free choice, a byte reads as one of R83's candidates. -/
theorem memReadByte_mem_candidates (s : State) (a : Nat) : memReadByte s a ∈ startByte s a :: racingBytes s a := by
  unfold memReadByte
  split
  next hrace => simp
  next w ws hrace =>
    have hchoice : Config.raceChoice s.flushCount a % (ws.length + 2) < (startByte s a :: w :: ws).length :=
      Nat.mod_lt _ (Nat.succ_pos _)
    rw [hrace, List.getD_eq_getElem _ _ hchoice]
    exact List.getElem_mem hchoice

/-- After the stores of a list in order, an address holds the last byte stored to it, else what it held before (R89). -/
theorem memGet_stores (cs : List Host.Cell) (m : Memory) (a : Nat) :
    memGet (cs.foldl (fun m c => memSet m c.1 c.2) m) a =
      ((cs.filter fun c => c.1 == a).getLast?.map (·.2)).or (memGet m a) := by
  induction cs using List.reverseRecOn with
  | nil => rfl
  | append_singleton cs c ih =>
    rw [List.foldl_append, List.filter_append]
    by_cases hc : c.1 = a
    · subst hc
      simp [memGet_memSet_same]
    · simp [memGet_memSet_other _ _ (Ne.symm hc), hc, ih]

theorem step_store {s : State} {a : Word} {b : Byte} {rest : List HostEvent} (hin : s.inputs = .store a b :: rest) :
    step s = .next (hostStore a b { s with inputs := rest }) := by
  simp [step, nextEvent, hin]

theorem step_fence {s : State} {rest : List HostEvent} (hidle : s.seq = .idle) (hin : s.inputs = .fence :: rest) :
    step s = .next (hostFence { s with inputs := rest }) := by
  simp [step, nextEvent, hidle, hin]

/-- Settles O55: the candidates of a read, the step of a store, and the fence as the pending stores in order. -/
theorem racingReadIsACandidate : Obligations.RacingReadIsACandidate := by
  refine ⟨fun s a => ?_, fun s a b rest hin => step_store hin, fun s rest hidle hin => ?_⟩
  · obtain hstart | hrace := List.mem_cons.1 (memReadByte_mem_candidates s a)
    · exact .inl hstart
    · exact .inr ⟨_, mem_racingBytes.1 hrace, rfl⟩
  · exact ⟨_, step_fence hidle hin, memGet_stores s.unordered s.mem⟩

/-! ### The branches of a FLUSH -/

/-- CONFIG comes before NO_WINDOW (R297). -/
theorem exec_flush_of_cfgErr {s : State} (hcfg : s.cfgErr = true) :
    exec .flush s = .next (failWith .config (startOp s)) := by
  simp [exec, execFlush, hcfg]

theorem exec_flush_of_noWindow {s : State} (hcfg : s.cfgErr = false) (hwin : s.winValid = false) :
    exec .flush s = .next (failWith .noWindow (startOp s)) := by
  simp [exec, execFlush, hcfg, hwin]

theorem exec_flush_of_stuck {s : State} {a : Nat} (hcfg : s.cfgErr = false) (hwin : s.winValid = true)
    (hstuck : stuckAddr (startOp s) = some a) : exec .flush s = .fault (.sourceReadStuck a) := by
  simp [exec, execFlush, hcfg, hwin, hstuck]

theorem exec_flush_of_admitted {s : State} (hcfg : s.cfgErr = false) (hwin : s.winValid = true)
    (hstuck : stuckAddr (startOp s) = none) : exec .flush s = .next (flushRun (startOp s)) := by
  simp [exec, execFlush, hcfg, hwin, hstuck]

/-! ### Reads that are not admitted -/

theorem stuckPixel_isSome {s : State} {x y : Nat}
    (hrefused : admitted s.cfg (pixAddr s.cfg s.fbBase x y).toNat = false ∨
      admitted s.cfg (pixAddr s.cfg s.fbBase x y + 1).toNat = false) : (stuckPixel s y x).isSome = true := by
  simp only [stuckPixel]
  split_ifs with h0 h1
  · rfl
  · rfl
  · exact (hrefused.elim h0 h1).elim

/-- A refused pixel anywhere in the plane gives the FLUSH an address at which it is stuck (R80). -/
theorem stuckAddr_isSome {s : State} {x y : Nat} (hx : x < s.cfg.width) (hy : y < s.cfg.height)
    (hstuck : (stuckPixel s y x).isSome = true) : (stuckAddr s).isSome = true :=
  List.findSome?_isSome_iff.2 ⟨(x, y), mem_raster.2 ⟨hx, hy⟩, hstuck⟩

/-- Settles O21: the search for a refused address finds one, and FLUSH faults with it. -/
theorem flushStuckOnRefusedRead : Obligations.FlushStuckOnRefusedRead := by
  intro s x y hcfg hwin hx hy hrefused
  obtain ⟨a, ha⟩ := Option.isSome_iff_exists.1
    (stuckAddr_isSome (s := startOp s) hx hy (stuckPixel_isSome (s := startOp s) hrefused))
  exact ⟨a, exec_flush_of_stuck hcfg hwin ha⟩

/-! ### What no instruction writes -/

/-- The source memory, the host's pending stores and events, GAMMA, CFG_ERR and the configuration are those of `s` (R74, R45,
R39, R42). -/
def SameSource (s t : State) : Prop :=
  t.mem = s.mem ∧ t.unordered = s.unordered ∧ t.inputs = s.inputs ∧ t.gamma = s.gamma ∧ t.cfgErr = s.cfgErr ∧
    t.cfg = s.cfg

theorem SameSource.refl (s : State) : SameSource s s := ⟨rfl, rfl, rfl, rfl, rfl, rfl⟩

theorem OnlyBus.sameSource {s t : State} (h : OnlyBus s t) : SameSource s t := by
  obtain ⟨_, _, _, _, _, _, _, _, _, rfl⟩ := h
  exact .refl s

theorem OnlyFlush.sameSource {s t : State} (h : OnlyFlush s t) : SameSource s t :=
  let ⟨_, _, _, _, _, _, _, hbus⟩ := h
  hbus.sameSource

/-- None of these fields is among what an instruction may write. -/
theorem exec_sameSource {i : Instr} {s t : State} (h : exec i s = .next t) : SameSource s t := by
  have hw := exec_writes h
  cases i with
  | setWindow => obtain ⟨w, v, c, rfl⟩ := hw; exact .refl s
  | flush => exact hw.sameSource
  | busCmd | busData => exact hw.onlyFlush.sameSource
  | displayOn | setColumn | setPage | pageData | rawCmd | rawData => exact hw.1.sameSource
  | wrCtrl | wrFbBase => cases hw; exact .refl s
  | _ => obtain ⟨log, rfl⟩ := hw; exact .refl s

/-- Settles O37, by what each instruction may write. -/
theorem noInstructionWritesSourceOrConfig : Obligations.NoInstructionWritesSourceOrConfig := by
  intro i s t h
  obtain ⟨hmem, hunordered, hinputs, hgamma, hcfgErr, hcfg⟩ := exec_sameSource h
  exact ⟨hmem, fun a => by rw [hmem], hunordered, hinputs, hgamma, hcfgErr, hcfg⟩

end Sys2Proof.Machine

/-! PROOFS. A FLUSH depends on the source memory by its pixel reads alone (O26): replacing the memory commutes with every
operation of a FLUSH, with the convert phase where the pixel plane agrees. -/

namespace Sys2Proof.Machine

open Sys2Proof

/-- The state with another source memory. -/
def withMem (m : Memory) (s : State) : State := { s with mem := m }

/-! ### The emit phase reads no source memory -/

theorem driveAll_withMem (m : Memory) (es : List BusEvent) (s : State) :
    driveAll es (withMem m s) = withMem m (driveAll es s) :=
  List.foldl_hom (withMem m) fun _ _ => rfl

theorem takeDraw_withMem (m : Memory) (s : State) : takeDraw (withMem m s) = withMem m (takeDraw s) := by
  simp only [takeDraw, withMem]
  split <;> rfl

theorem raiseBusWrite_withMem (m : Memory) (c : ByteCtx) (v : Byte) (s : State) :
    raiseBusWrite c v (withMem m s) = withMem m (raiseBusWrite c v s) := by
  unfold raiseBusWrite
  rw [apply_ite (withMem m)]
  rfl

theorem emit_withMem (m : Memory) (b : Byte) (s : State) : emit b (withMem m s) = withMem m (emit b s) := by
  unfold emit
  rw [takeDraw_withMem, driveAll_withMem]
  rfl

theorem emitByte_withMem (m : Memory) (c : ByteCtx) (b : Byte) (s : State) :
    emitByte c b (withMem m s) = withMem m (emitByte c b s) := by
  have hdraw : nextDraw (withMem m s) = nextDraw s := rfl
  simp only [emitByte, hdraw, emit_withMem]
  split
  · rfl
  · exact raiseBusWrite_withMem m _ _ _

theorem sendBytes_withMem (m : Memory) (h : Panel) (page n k : Nat) (bs : List Byte) (s : State) :
    sendBytes h page n k bs (withMem m s) =
      ((sendBytes h page n k bs s).1, withMem m (sendBytes h page n k bs s).2) := by
  induction bs generalizing k s with
  | nil => rfl
  | cons b bs ih =>
    have hdraw : nextDraw { withMem m s with seq := .emit page h k } = nextDraw { s with seq := .emit page h k } := rfl
    have hbyte : emitByte (transferCtx h page n k) b { withMem m s with seq := .emit page h k } = _ :=
      emitByte_withMem m (transferCtx h page n k) b { s with seq := .emit page h k }
    simp only [sendBytes, hdraw, hbyte]
    split
    · exact ih _ _
    · rfl

theorem transfer_withMem (m : Memory) (r : PageRecord) (s : State) :
    transfer r (withMem m s) = ((transfer r s).1, withMem m (transfer r s).2) := by
  have hcmd : sendCommands r (withMem m s) = ((sendCommands r s).1, withMem m (sendCommands r s).2) :=
    sendBytes_withMem m _ _ _ _ _ (setMode .cmd (chipSelect r.panel s))
  unfold transfer
  rw [hcmd]
  rcases sendCommands r s with ⟨_ | _, s1⟩
  · rfl
  · exact sendBytes_withMem m _ _ _ _ _ (setMode .data s1)

theorem emitPage_withMem (m : Memory) (s : State) (p : Nat) : emitPage (withMem m s) p = withMem m (emitPage s p) := by
  have htransfers := List.foldl_hom (withMem m) (g₁ := fun s r => (transfer r s).2) (g₂ := fun s r => (transfer r s).2)
    (l := packRow s p) (init := s) fun t r => congrArg Prod.snd (transfer_withMem m r t)
  exact congrArg (rowEnd p) htransfers

theorem emitPhase_withMem (m : Memory) (s : State) : emitPhase (withMem m s) = withMem m (emitPhase s) :=
  List.foldl_hom (withMem m) (emitPage_withMem m)

/-! ### The phases before it -/

theorem quantizePhase_withMem (m : Memory) (d : Bool) (s : State) :
    quantizePhase d (withMem m s) = withMem m (quantizePhase d s) := by
  have hcells := List.foldl_hom (withMem m) (g₁ := quantizeCell d) (g₂ := quantizeCell d)
    (l := raster s.cfg.width s.cfg.height) (init := s) fun _ _ => rfl
  have hraster : raster (withMem m s).cfg.width (withMem m s).cfg.height = raster s.cfg.width s.cfg.height := rfl
  have hlines : quantizedLines d (withMem m s) = quantizedLines d s := rfl
  simp only [quantizePhase, hraster, hcells, hlines]
  rfl

/-- `m` and the source memory agree on the pixel plane (R81). -/
def AgreesOnPlane (m : Memory) (s : State) : Prop := ∀ a, InPixelPlane s a → memGet m a = memGet s.mem a

theorem memReadByte_withMem {m : Memory} {s : State} {a : Nat} (h : memGet m a = memGet s.mem a) :
    memReadByte (withMem m s) a = memReadByte s a := by
  have hstart : startByte (withMem m s) a = startByte s a := by
    rw [startByte, startByte, ← h]
    rfl
  have hrace : racingBytes (withMem m s) a = racingBytes s a := rfl
  simp only [memReadByte, hstart, hrace]
  rfl

theorem convertPixel_withMem {m : Memory} {s : State} (hm : AgreesOnPlane m s) {x y : Nat} (hx : x < s.cfg.width)
    (hy : y < s.cfg.height) : convertPixel (withMem m s) y x = convertPixel s y x := by
  have hlo := memReadByte_withMem (hm _ ⟨x, y, hx, hy, .inl rfl⟩)
  have hhi := memReadByte_withMem (hm _ ⟨x, y, hx, hy, .inr rfl⟩)
  have hread : memRead16 (withMem m s) (pixAddr s.cfg s.fbBase x y) = memRead16 s (pixAddr s.cfg s.fbBase x y) := by
    rw [memRead16, memRead16, hlo, hhi]
  exact congrArg (fun px => (convert s.cfg s.gamma px).zeroExtend 16) hread

/-- A run of CONVERT positions inside the plane. -/
theorem convertCells_withMem {m : Memory} {s : State} (hm : AgreesOnPlane m s) {qs : List (Nat × Nat)}
    (hqs : ∀ q ∈ qs, q.1 < s.cfg.width ∧ q.2 < s.cfg.height) :
    qs.foldl convertCell (withMem m s) = withMem m (qs.foldl convertCell s) := by
  induction qs generalizing s with
  | nil => rfl
  | cons q qs ih =>
    obtain ⟨⟨hx, hy⟩, hqs⟩ := List.forall_mem_cons.1 hqs
    have hcell : convertCell (withMem m s) q = withMem m (convertCell s q) := by
      rw [convertCell, convertPixel_withMem hm hx hy]
      rfl
    rw [List.foldl_cons, List.foldl_cons, hcell]
    exact ih (s := convertCell s q) hm hqs

theorem convertPhase_withMem {m : Memory} {s : State} (hm : AgreesOnPlane m s) :
    convertPhase (withMem m s) = withMem m (convertPhase s) := by
  have hcells := convertCells_withMem (s := enterFlush s) hm (qs := raster s.cfg.width s.cfg.height)
    fun _ hq => mem_raster.1 hq
  have henter : enterFlush (withMem m s) = withMem m (enterFlush s) := rfl
  have hraster : raster (withMem m s).cfg.width (withMem m s).cfg.height = raster s.cfg.width s.cfg.height := rfl
  simp only [convertPhase, henter, hraster, hcells]
  rfl

theorem finishFlush_withMem (m : Memory) (s : State) : finishFlush (withMem m s) = withMem m (finishFlush s) := rfl

theorem startOp_withMem (m : Memory) (s : State) : startOp (withMem m s) = withMem m (startOp s) := rfl

theorem flushRun_withMem {m : Memory} {s : State} (hm : AgreesOnPlane m s) :
    flushRun (withMem m s) = withMem m (flushRun s) := by
  have hdither : (withMem m s).dither = s.dither := rfl
  simp only [flushRun, hdither, convertPhase_withMem hm, quantizePhase_withMem, emitPhase_withMem, finishFlush_withMem]

/-! ### The obligation -/

/-- Settles O26: which branch a FLUSH takes does not depend on the source memory, and its run reads it in the plane only. -/
theorem flushReadsOnlyThePlane : Obligations.FlushReadsOnlyThePlane := by
  intro s m hm
  change exec .flush (withMem m s) = _
  cases hcfg : s.cfgErr with
  | true =>
    rw [exec_flush_of_cfgErr hcfg]
    exact exec_flush_of_cfgErr hcfg
  | false =>
    cases hwin : s.winValid with
    | false =>
      rw [exec_flush_of_noWindow hcfg hwin]
      exact exec_flush_of_noWindow hcfg hwin
    | true =>
      cases hstuck : stuckAddr (startOp s) with
      | some a =>
        rw [exec_flush_of_stuck hcfg hwin hstuck]
        exact exec_flush_of_stuck hcfg hwin hstuck
      | none =>
        have hagrees : AgreesOnPlane m (startOp s) := hm
        rw [exec_flush_of_admitted hcfg hwin hstuck, exec_flush_of_admitted (s := withMem m s) hcfg hwin hstuck,
          startOp_withMem, flushRun_withMem hagrees]
        rfl

end Sys2Proof.Machine

/-! PROOFS. The encoding (30_encoding.md): the fields of each operand word and emitted pair, then the round trip (O1), the
decoding of every aligned transaction (O2), the write bits that do not count (O3) and words written out (O4). -/

namespace Sys2Proof

/-! ### Fields of the encoded operands -/

theorem panelOfBit_panelBit (h : Panel) : panelOfBit (panelBit h) = h := by
  cases h <;> rfl

theorem ctrlOperand_bits (dither neg : Bool) :
    (ctrlOperand dither neg).getLsbD 0 = dither ∧ (ctrlOperand dither neg).getLsbD 1 = neg := by
  simp only [ctrlOperand, BitVec.zeroExtend, BitVec.getLsbD_setWidth, BitVec.getLsbD_append]
  simp

theorem rawOperand_panel (h : Panel) (b : Byte) : panelOfBit ((rawOperand h b).getLsbD 8) = h := by
  have hbit : (rawOperand h b).getLsbD 8 = panelBit h := by
    simp only [rawOperand, BitVec.zeroExtend, BitVec.getLsbD_setWidth, BitVec.getLsbD_append]
    simp
  rw [hbit, panelOfBit_panelBit]

theorem rawOperand_byte (h : Panel) (b : Byte) : (rawOperand h b).extractLsb' 0 8 = b := by
  rw [rawOperand, BitVec.zeroExtend, BitVec.extractLsb'_setWidth_of_le (by decide)]
  exact BitVec.extractLsb'_append_eq_right

/-- Four bytes joined to a word, read back lowest byte first (R104, R105). -/
theorem byteFields_append (b3 b2 b1 b0 : Byte) :
    (b3 ++ b2 ++ b1 ++ b0 : Word).extractLsb' 0 8 = b0 ∧ (b3 ++ b2 ++ b1 ++ b0 : Word).extractLsb' 8 8 = b1 ∧
    (b3 ++ b2 ++ b1 ++ b0 : Word).extractLsb' 16 8 = b2 ∧ (b3 ++ b2 ++ b1 ++ b0 : Word).extractLsb' 24 8 = b3 := by
  simp only [BitVec.extractLsb'_append_eq_ite]
  simp

theorem busPair_byte (m : BusMode) (b : Byte) : (busPair m b).extractLsb' 0 8 = b := by
  cases m <;> exact BitVec.extractLsb'_append_eq_right

theorem busPair_mode (m : BusMode) (b : Byte) : (busPair m b).getLsbD 8 = decide (m = .data) := by
  cases m <;> simp only [busPair, BitVec.getLsbD_append] <;> simp

/-- SET_COLUMN's byte is neither DISPLAY_ON's nor SET_PAGE's, and keeps the address in its free bits (R121). -/
theorem columnByte_fields : ∀ c : Byte, c.toNat < 64 →
    0x40 ||| c ≠ 0x3F ∧ (0x40 ||| c) &&& 0xC0 = 0x40 ∧ (0x40 ||| c) &&& 0x3F = c := by decide

/-- SET_PAGE's byte is neither DISPLAY_ON's nor SET_COLUMN's, and keeps the address in its free bits (R121). -/
theorem pageByte_fields : ∀ p : Byte, p.toNat < 8 →
    0xB8 ||| p ≠ 0x3F ∧ (0xB8 ||| p) &&& 0xC0 ≠ 0x40 ∧ (0xB8 ||| p) &&& 0xF8 = 0xB8 ∧ (0xB8 ||| p) &&& 0x07 = p := by
  decide

/-! ### What a transaction decodes to -/

theorem alignedOff_iff (off : Byte) : alignedOff off = true ↔ off.toNat % 4 = 0 := beq_iff_eq

theorem unmappedOff_iff (off : Byte) : unmappedOff off = true ↔ alignedOff off = true ∧ 0x24 ≤ off.toNat := by
  simp [unmappedOff]

theorem decodeHost_read {off : Byte} (h : alignedOff off = true) (data : Word) :
    decodeHost ⟨.rd, off, 32, data⟩ = .ok (decodeRead off) := by
  simp [decodeHost, h]

theorem decodeHost_write {off : Byte} (h : alignedOff off = true) (data : Word) :
    decodeHost ⟨.wr, off, 32, data⟩ = .ok (decodeWrite off data) := by
  simp [decodeHost, h]

theorem decodeRead_unmapped {off : Byte} (h : 0x24 ≤ off.toNat) : decodeRead off = .rdUnmapped off := by
  unfold decodeRead
  split
  case h_10 => rfl
  all_goals omega

theorem decodeWrite_unmapped {off : Byte} (h : 0x24 ≤ off.toNat) (data : Word) :
    decodeWrite off data = .wrUnmapped off := by
  unfold decodeWrite
  split
  case h_10 => rfl
  all_goals omega

/-! ### What an emitted pair decodes to -/

theorem decodeBus_rawCmd (b : Byte) : decodeBus .raw (busPair .cmd b) = .ok (.rawCmd b) := by
  simp only [decodeBus, busPair_byte, busPair_mode]
  rfl

theorem decodeBus_rawData (b : Byte) : decodeBus .raw (busPair .data b) = .ok (.rawData b) := by
  simp only [decodeBus, busPair_byte, busPair_mode]
  rfl

theorem decodeBus_pageData (b : Byte) : decodeBus .flush (busPair .data b) = .ok (.pageData b) := by
  simp only [decodeBus, busPair_byte, busPair_mode]
  rfl

theorem decodeBus_setColumn {b : Byte} (hon : b ≠ 0x3F) (hcol : b &&& 0xC0 = 0x40) :
    decodeBus .flush (busPair .cmd b) = .ok (.setColumn (b &&& 0x3F)) := by
  simp only [decodeBus, busPair_byte, busPair_mode]
  exact (if_neg hon).trans (if_pos hcol)

theorem decodeBus_setPage {b : Byte} (hon : b ≠ 0x3F) (hcol : b &&& 0xC0 ≠ 0x40) (hpage : b &&& 0xF8 = 0xB8) :
    decodeBus .flush (busPair .cmd b) = .ok (.setPage (b &&& 0x07)) := by
  simp only [decodeBus, busPair_byte, busPair_mode]
  exact (if_neg hon).trans ((if_neg hcol).trans (if_pos hpage))

/-! ### The round trip -/

theorem decodeWrite_windowOperand (xs ys xe ye : Byte) :
    decodeWrite 0x04 (windowOperand xs ys xe ye) = .setWindow xs ys xe ye := by
  obtain ⟨hxs, hys, hxe, hye⟩ := byteFields_append ye xe ys xs
  simp only [windowOperand, decodeWrite, hxs, hys, hxe, hye]
  rfl

/-- Settles O1, by the row of the instruction: where it has operands, their fields are read back from the word. -/
theorem decodeOfEncodeIsIdentity : Obligations.DecodeOfEncodeIsIdentity := by
  intro i hwf
  cases i with
  | rdCtrl | rdWindow | rdFlush | rdFbBase | rdBusCmd | rdBusData | rdStatus | rdErrInfo | rdGeom =>
    exact decodeHost_read rfl 0
  | flush | wrStatus | wrErrInfo | wrGeom => exact decodeHost_write rfl 0
  | wrFbBase addr => exact decodeHost_write rfl addr
  | wrCtrl dither neg =>
    obtain ⟨hdither, hneg⟩ := ctrlOperand_bits dither neg
    exact (decodeHost_write rfl _).trans (congrArg _ (congrArg₂ Instr.wrCtrl hdither hneg))
  | setWindow xs ys xe ye => exact (decodeHost_write rfl _).trans (congrArg _ (decodeWrite_windowOperand xs ys xe ye))
  | busCmd h b =>
    exact (decodeHost_write rfl _).trans
      (congrArg _ (congrArg₂ Instr.busCmd (rawOperand_panel h b) (rawOperand_byte h b)))
  | busData h b =>
    exact (decodeHost_write rfl _).trans
      (congrArg _ (congrArg₂ Instr.busData (rawOperand_panel h b) (rawOperand_byte h b)))
  | rdUnmapped off =>
    obtain ⟨haligned, hoff⟩ := (unmappedOff_iff off).1 hwf
    exact (decodeHost_read haligned 0).trans (congrArg _ (decodeRead_unmapped hoff))
  | wrUnmapped off =>
    obtain ⟨haligned, hoff⟩ := (unmappedOff_iff off).1 hwf
    exact (decodeHost_write haligned 0).trans (congrArg _ (decodeWrite_unmapped hoff 0))
  | displayOn => rfl
  | setColumn c =>
    obtain ⟨hon, hcol, hc⟩ := columnByte_fields c (of_decide_eq_true hwf)
    exact (decodeBus_setColumn hon hcol).trans (congrArg _ (congrArg Instr.setColumn hc))
  | setPage p =>
    obtain ⟨hon, hcol, hpage, hp⟩ := pageByte_fields p (of_decide_eq_true hwf)
    exact (decodeBus_setPage hon hcol hpage).trans (congrArg _ (congrArg Instr.setPage hp))
  | pageData b => exact decodeBus_pageData b
  | rawCmd b => exact decodeBus_rawCmd b
  | rawData b => exact decodeBus_rawData b

/-! ### The rows of the register map -/

/-- The offsets of the registers (R101). -/
def registerOffsets : List Byte := [0x00, 0x04, 0x08, 0x0C, 0x10, 0x14, 0x18, 0x1C, 0x20]

theorem mem_registerOffsets : ∀ off : Byte, alignedOff off = true → off.toNat < 0x24 → off ∈ registerOffsets := by decide

/-- The HOST row that matches the selector `w` and no other: each of the eighteen rows of the named registers (R102). -/
structure IsRegisterRow (w : BitVec 9) (i : Instr) : Prop where
  row        : tableRow i = (w, 0x1FF)
  wellFormed : i.wellFormed = true
  host       : i ≠ .displayOn

theorem decodeRead_registerRow : ∀ off ∈ registerOffsets, IsRegisterRow (selector .rd off) (decodeRead off) := by
  simp only [registerOffsets, List.forall_mem_cons]
  refine ⟨?_, ?_, ?_, ?_, ?_, ?_, ?_, ?_, ?_, List.forall_mem_nil _⟩ <;> exact ⟨rfl, rfl, Instr.noConfusion⟩

theorem decodeWrite_registerRow (data : Word) :
    ∀ off ∈ registerOffsets, IsRegisterRow (selector .wr off) (decodeWrite off data) := by
  simp only [registerOffsets, List.forall_mem_cons]
  refine ⟨?_, ?_, ?_, ?_, ?_, ?_, ?_, ?_, ?_, List.forall_mem_nil _⟩ <;> exact ⟨rfl, rfl, Instr.noConfusion⟩

/-- The rows with free selector bits are no register rows. -/
theorem IsRegisterRow.named {w : BitVec 9} {i : Instr} (hi : IsRegisterRow w i) : i ≠ .displayOn ∧
    ∀ b, i ≠ .rdUnmapped b ∧ i ≠ .wrUnmapped b ∧ i ≠ .setColumn b ∧ i ≠ .setPage b ∧ i ≠ .pageData b ∧ i ≠ .rawCmd b ∧
      i ≠ .rawData b := by
  have hmask : (tableRow i).2 = 0x1FF := congrArg Prod.snd hi.row
  refine ⟨hi.host, fun b => ⟨?_, ?_, ?_, ?_, ?_, ?_, ?_⟩⟩ <;> rintro rfl <;> simp [tableRow] at hmask

theorem IsRegisterRow.selector_and_mask {w : BitVec 9} {i : Instr} (hi : IsRegisterRow w i) :
    w &&& (tableRow i).2 = (tableRow i).1 := by
  rw [hi.row]
  exact BitVec.and_allOnes

/-- Settles O2: below 0x24 an aligned offset is a register's, and from there on the access is the unmapped one. -/
theorem hostDecodingTotal : Obligations.HostDecodingTotal := by
  rintro ⟨dir, off, width, data⟩ rfl hoff
  have haligned : alignedOff off = true := (alignedOff_iff off).2 hoff
  by_cases hlt : off.toNat < 0x24
  · have hmem : off ∈ registerOffsets := mem_registerOffsets off haligned hlt
    cases dir with
    | rd =>
      have hrow := decodeRead_registerRow off hmem
      exact ⟨_, decodeHost_read haligned data, hrow.wellFormed, hrow.selector_and_mask, fun _ => hrow.named,
        fun hge => absurd hlt hge.not_gt⟩
    | wr =>
      have hrow := decodeWrite_registerRow data off hmem
      exact ⟨_, decodeHost_write haligned data, hrow.wellFormed, hrow.selector_and_mask, fun _ => hrow.named,
        fun hge => absurd hlt hge.not_gt⟩
  · have hge : 0x24 ≤ off.toNat := Nat.le_of_not_lt hlt
    have hwf : unmappedOff off = true := (unmappedOff_iff off).2 ⟨haligned, hge⟩
    cases dir with
    | rd =>
      refine ⟨.rdUnmapped off, ?_, hwf, Laws.TableRow.selector_rd_top off, fun h => absurd h hlt, fun _ => rfl⟩
      rw [decodeHost_read haligned, decodeRead_unmapped hge]
    | wr =>
      refine ⟨.wrUnmapped off, ?_, hwf, Laws.TableRow.selector_wr_top off, fun h => absurd h hlt, fun _ => rfl⟩
      rw [decodeHost_write haligned, decodeWrite_unmapped hge]

/-! ### Reserved write bits -/

theorem getLsbD_eq_of_lowBits_eq {d d' : Word} {n i : Nat} (h : d.extractLsb' 0 n = d'.extractLsb' 0 n) (hi : i < n) :
    d.getLsbD i = d'.getLsbD i := by
  have hbit := congrArg (BitVec.getLsbD · i) h
  simpa [hi] using hbit

theorem lowByte_eq_of_lowBits_eq {d d' : Word} {n : Nat} (h : d.extractLsb' 0 n = d'.extractLsb' 0 n) (hn : 8 ≤ n) :
    d.extractLsb' 0 8 = d'.extractLsb' 0 8 := by
  have hbyte := congrArg (BitVec.extractLsb' 0 8) h
  simpa [BitVec.extractLsb'_extractLsb'_of_le, hn] using hbyte

/-- Settles O3: the bits that do count determine what each write decodes to, or what it stores. -/
theorem reservedWriteBitsIgnored : Obligations.ReservedWriteBitsIgnored := by
  refine ⟨fun d d' h => ?ctrl, fun d d' h => ?bus, fun _ _ => rfl, fun d d' s h => ?fbBase⟩
  case ctrl =>
    have hdither : d.getLsbD 0 = d'.getLsbD 0 := getLsbD_eq_of_lowBits_eq h (by decide)
    have hneg : d.getLsbD 1 = d'.getLsbD 1 := getLsbD_eq_of_lowBits_eq h (by decide)
    exact congrArg₂ Instr.wrCtrl hdither hneg
  case bus =>
    have hpanel : d.getLsbD 8 = d'.getLsbD 8 := getLsbD_eq_of_lowBits_eq h (by decide)
    have hbyte : d.extractLsb' 0 8 = d'.extractLsb' 0 8 := lowByte_eq_of_lowBits_eq h (by decide)
    exact ⟨congrArg₂ Instr.busCmd (congrArg panelOfBit hpanel) hbyte,
      congrArg₂ Instr.busData (congrArg panelOfBit hpanel) hbyte⟩
  case fbBase => simp only [Machine.exec, Machine.execWrFbBase, Machine.fbBaseOf, h]

/-! ### Words written out -/

/-- Settles O4, by evaluating the decoder at each word. -/
theorem sampleWordsDecode : Obligations.SampleWordsDecode :=
  ⟨rfl, rfl, rfl, rfl, rfl, rfl, rfl, rfl, rfl, rfl, rfl, rfl, rfl⟩

end Sys2Proof

/-! PROOFS. The register reads and the accesses without effect (R105 to R115, R265 to R269): the fields of the words read
(O10, O11, O13) and the plain answers (O14). -/

namespace Sys2Proof.Machine

open Sys2Proof

/-! ### The words read -/

theorem windowWord_fields (s : State) :
    (windowWord s).extractLsb' 0 8 = s.win.xs ∧ (windowWord s).extractLsb' 8 8 = s.win.ysPage ∧
    (windowWord s).extractLsb' 16 8 = s.win.xe ∧ (windowWord s).extractLsb' 24 8 = s.win.yePage :=
  byteFields_append s.win.yePage s.win.xe s.win.ysPage s.win.xs

theorem statusWord_flags (s : State) :
    (statusWord s).getLsbD 3 = false ∧ (statusWord s).getLsbD 4 = s.winValid ∧ (statusWord s).getLsbD 5 = s.cfgErr := by
  simp only [statusWord, BitVec.getLsbD_append]
  simp [bit]

theorem statusWord_fields (s : State) :
    (statusWord s).extractLsb' 0 3 = s.lastCode.code ∧ (statusWord s).extractLsb' 6 2 = 0 ∧
    (statusWord s).extractLsb' 8 8 = s.lineCode ∧ (statusWord s).extractLsb' 16 16 = 0 := by
  simp only [statusWord, BitVec.extractLsb'_append_eq_ite]
  simp

theorem geomWord_fields (s : State) :
    (geomWord s).extractLsb' 0 16 = BitVec.ofNat 16 s.cfg.width ∧
    (geomWord s).extractLsb' 16 16 = BitVec.ofNat 16 s.cfg.height :=
  ⟨BitVec.extractLsb'_append_eq_right, BitVec.extractLsb'_append_eq_left⟩

/-! ### The obligations -/

/-- Settles O10, by the fields of the window word. -/
theorem readWindowReturnsFields : Obligations.ReadWindowReturnsFields :=
  ⟨fun s => ⟨windowWord s, rfl, windowWord_fields s⟩, rfl⟩

/-- Settles O11, by the fields of the STATUS word. -/
theorem readStatusReturnsFields : Obligations.ReadStatusReturnsFields := by
  refine ⟨fun s => ⟨statusWord s, rfl, ?_⟩, ⟨rfl, rfl, rfl, rfl, rfl⟩, fun _ => rfl⟩
  obtain ⟨hbit3, hwinValid, hcfgErr⟩ := statusWord_flags s
  obtain ⟨hcode, hbits6, hline, hbits16⟩ := statusWord_fields s
  exact ⟨hcode, hbit3, hwinValid, hcfgErr, hbits6, hline, hbits16⟩

/-- Settles O13: a size below 65536 fits its half of the word. -/
theorem readGeomReturnsGeometry : Obligations.ReadGeomReturnsGeometry := by
  refine ⟨fun s hw hh => ⟨geomWord s, rfl, ?_, ?_⟩, fun s hw hh => ?_, fun _ => rfl⟩
  · rw [(geomWord_fields s).1, BitVec.toNat_ofNat, Nat.mod_eq_of_lt hw]
  · rw [(geomWord_fields s).2, BitVec.toNat_ofNat, Nat.mod_eq_of_lt hh]
  · have hword : geomWord s = 0x00400080 := by rw [geomWord, hw, hh]; rfl
    exact congrArg (fun v => Host.Outcome.next (answer v s)) hword

/-- Settles O14: each of these accesses answers a value or changes nothing, by its meaning. -/
theorem plainAccessesAnswer : Obligations.PlainAccessesAnswer :=
  fun _ _ => ⟨rfl, rfl, rfl, rfl, rfl, rfl, rfl, rfl, rfl⟩

end Sys2Proof.Machine

/-! PROOFS. A BUS form away from its sequencer position (O30). -/

namespace Sys2Proof.Machine

open Sys2Proof

theorem flushByte_refused {s : State} (h : ∀ p h k, s.seq ≠ .emit p h k) (b : Byte) :
    flushByte b s = .refused .notEmitting := by
  unfold flushByte
  split
  next hseq => exact absurd hseq (h _ _ _)
  next => rfl

theorem rawByte_refused {s : State} {m : BusMode} (h : ∀ h b', s.seq ≠ .raw h m b') (b : Byte) :
    rawByte m b s = .refused .notEmitting := by
  unfold rawByte
  split
  next hseq => exact if_neg fun hm => h _ _ (hm ▸ hseq)
  next => rfl

/-- Settles O30: the four FLUSH forms share one meaning and the two raw forms another, each refused off its position. -/
theorem busFormsOutsideTheirOperation : Obligations.BusFormsOutsideTheirOperation :=
  fun _ b => ⟨fun h => ⟨flushByte_refused h _, flushByte_refused h _, flushByte_refused h _, flushByte_refused h b⟩,
    fun h => rawByte_refused h b, fun h => rawByte_refused h b⟩

end Sys2Proof.Machine

/-! PROOFS. The converter (40_converter.md): the channels as arithmetic on the pixel's fields (O42), the luma under the weight
constraint of R15 (O40, O41), the converted plane (O49). -/

namespace Sys2Proof.Machine

open Sys2Proof

/-! ### Channel expansion -/

theorem exp5_toNat (v : BitVec 5) : (exp5 v).toNat = v.toNat * 8 + v.toNat / 4 := by
  revert v
  decide

theorem exp6_toNat (v : BitVec 6) : (exp6 v).toNat = v.toNat * 4 + v.toNat / 16 := by
  revert v
  decide

/-- Settles O42: each channel is the expansion of a field of the pixel; the top field of RGB565 needs no mask. -/
theorem channelsAreReplicatedFields : Obligations.ChannelsAreReplicatedFields := by
  refine ⟨fun px => ?_, fun px => ?_⟩
  · have htop : px.toNat / 2048 % 32 = px.toNat / 2048 := by omega
    simp [channels, exp5_toNat, exp6_toNat, Nat.shiftRight_eq_div_pow, htop]
  · simp [channels, exp5_toNat, Nat.shiftRight_eq_div_pow]

/-! ### The luma -/

theorem luma_toNat (p : Params) (px : Half) :
    (luma p px).toNat = min (lumaSum p (channels p.pixFmt px) / p.wden) 255 := by
  rw [luma, BitVec.toNat_ofNat]
  exact Nat.mod_eq_of_lt (Nat.lt_succ_of_le (Nat.min_le_right _ 255))

theorem lumaSum_le {p : Params} (hp : WeightsOk p) (c : Byte × Byte × Byte) : lumaSum p c ≤ 255 * p.wden := by
  have hle (w : Nat) (b : Byte) : w * b.toNat ≤ w * 255 := Nat.mul_le_mul_left w (by omega)
  have hsum : p.wr + p.wg + p.wb = p.wden := hp.1
  calc lumaSum p c ≤ p.wr * 255 + p.wg * 255 + p.wb * 255 :=
        Nat.add_le_add (Nat.add_le_add (hle _ _) (hle _ _)) (hle _ _)
    _ = 255 * p.wden := by omega

/-- The clamp of R144 never bites under R15. -/
theorem luma_toNat_of_weightsOk {p : Params} (hp : WeightsOk p) (px : Half) :
    (luma p px).toNat = lumaSum p (channels p.pixFmt px) / p.wden := by
  have hmean : lumaSum p (channels p.pixFmt px) / p.wden ≤ 255 :=
    Nat.div_le_of_le_mul ((lumaSum_le hp _).trans_eq (Nat.mul_comm 255 _))
  rw [luma_toNat, Nat.min_eq_left hmean]

theorem lumaSum_gray {p : Params} (hp : WeightsOk p) (v : Byte) : lumaSum p (v, v, v) = p.wden * v.toNat := by
  rw [lumaSum, ← Nat.add_mul, ← Nat.add_mul, hp.1]

/-- Settles O41, by the bound on the weighted sum. -/
theorem lumaNeedsNoClamp : Obligations.LumaNeedsNoClamp := by
  intro p px r g b hchannels
  have hsum : lumaSum p (channels p.pixFmt px) = p.wr * r.toNat + p.wg * g.toNat + p.wb * b.toNat := by
    rw [hchannels, lumaSum]
  rw [← hsum]
  exact ⟨luma_toNat p px, fun hp => ⟨lumaSum_le hp _, luma_toNat_of_weightsOk hp px⟩⟩

/-- Settles O40: equal channels `v` weigh `WDEN * v` together, so the division gives back `v`. -/
theorem grayGivesGammaEntry : Obligations.GrayGivesGammaEntry := by
  intro p gamma px v hp hchannels
  have hluma : luma p px = v := by
    apply BitVec.eq_of_toNat_eq
    rw [luma_toNat_of_weightsOk hp, hchannels, lumaSum_gray hp, Nat.mul_div_cancel_left _ hp.2]
  exact ⟨hluma, by simp only [convert, hluma]⟩

/-! ### The converted plane -/

theorem cellAt_convertedPlane (s : State) {x y : Nat} (hx : x < s.cfg.width) (hy : y < s.cfg.height) :
    cellAt (convertedPlane s) y x =
      ((convert s.cfg s.gamma (memRead16 s (pixAddr s.cfg s.fbBase x y))).toNat : Int) :=
  (congrArg BitVec.toInt (storedAt_convertedPlane s hx hy)).trans (convertPixel_toInt s y x)

/-- Settles O49: each cell holds a converted byte. -/
theorem convertedPlaneInRange : Obligations.ConvertedPlaneInRange := by
  refine fun s => ⟨convertedPlane_sized s, fun x y hx hy => ?_, fun x y => cellAt_convertedPlane s⟩
  rw [cellAt_convertedPlane s hx hy]
  omega

end Sys2Proof.Machine

/-! PROOFS. The ditherer (41_ditherer.md): the midpoint (O43), one step cell by cell (O44), the range every step keeps (O45),
the raster order that makes each cell final (O46) and the threshold pass (O48). -/

namespace Sys2Proof.Machine

open Sys2Proof

/-! ### Quantization -/

/-- The midpoint of R163 holds for every integer. -/
theorem quantize_eq (p : Int) : quantize p = if 128 ≤ p then 255 else 0 := by
  have hnearer : |p - Config.black| ≥ |p - Config.white| ↔ 128 ≤ p := by
    simp only [Config.black, Config.white, abs_eq_max_neg]
    omega
  rw [quantize, if_congr hnearer rfl rfl, Config.black, Config.white]

theorem quantize_black_or_white (p : Int) : quantize p = 0 ∨ quantize p = 255 := by
  rw [quantize_eq]
  split
  · exact .inr rfl
  · exact .inl rfl

theorem quantize_mem_range (p : Int) : 0 ≤ quantize p ∧ quantize p ≤ 255 := by
  rcases quantize_black_or_white p with h | h <;> omega

@[simp] theorem quantize_quantize (p : Int) : quantize (quantize p) = quantize p := by
  rcases quantize_black_or_white p with h | h <;> rw [h] <;> rfl

/-- Truncation toward zero (R22): the error of a WHITE pixel is negative, so its magnitude is divided. -/
theorem diffusedError_eq {p : Int} (h0 : 0 ≤ p) (h1 : p ≤ 255) :
    diffusedError p = if 128 ≤ p then -((255 - p) / 8) else p / 8 := by
  rw [diffusedError, quantize_eq, Config.norm]
  split
  · rw [← Int.neg_sub 255 p, Int.neg_tdiv, Int.tdiv_eq_ediv_of_nonneg (by omega)]
  · rw [Int.sub_zero, Int.tdiv_eq_ediv_of_nonneg h0]

/-- Settles O43, by the midpoint on each side. -/
theorem quantizeAtTheMidpoint : Obligations.QuantizeAtTheMidpoint := by
  intro p h0 h1
  rw [diffusedError_eq h0 h1, quantize_eq]
  split <;> omega

theorem clamp255_mem_range (v : Int) : 0 ≤ clamp255 v ∧ clamp255 v ≤ 255 := by
  simp only [clamp255]
  omega

/-! ### One step, cell by cell -/

/-- What a kernel cell with coefficient `c` makes of the value `v` of its target (R166, R167). -/
def kernelValue (q e8 v c : Int) : Int := if c = Config.sentinel then q else clamp255 (v + e8 * c)

theorem kernelValue_mem_range {q : Int} (hq : 0 ≤ q ∧ q ≤ 255) (e8 v c : Int) :
    0 ≤ kernelValue q e8 v c ∧ kernelValue q e8 v c ≤ 255 := by
  unfold kernelValue
  split
  · exact hq
  · exact clamp255_mem_range _

/-- A kernel cell is one write, or none when its target lies outside the plane (R168). -/
theorem kernelCell_eq (w h x y : Nat) (q e8 : Int) (I : List (List Half)) (k : Nat × Nat × Int) :
    kernelCell w h x y q e8 I k =
      if x + k.1 < w ∧ y + k.2.1 < h then
        setCell I (y + k.2.1) (x + k.1) (kernelValue q e8 (cellAt I (y + k.2.1) (x + k.1)) k.2.2)
      else I := by
  unfold kernelCell kernelValue
  split_ifs <;> rfl

theorem kernelCell_sized {w h : Nat} {I : List (List Half)} (hI : Sized w h I) (x y : Nat) (q e8 : Int)
    (k : Nat × Nat × Int) : Sized w h (kernelCell w h x y q e8 I k) := by
  rw [kernelCell_eq]
  split
  · exact setCell_sized hI ..
  · exact hI

theorem ditherStep_sized {w h : Nat} {I : List (List Half)} (hI : Sized w h I) (q : Nat × Nat) :
    Sized w h (ditherStep w h I q) :=
  List.foldlRecOn (motive := Sized w h) _ _ hI fun _ hJ k _ => kernelCell_sized hJ _ _ _ _ k

/-- A kernel cell changes its target only. -/
theorem cellAt_kernelCell {w h : Nat} {I : List (List Half)} (hI : Sized w h I) (x y : Nat) {q : Int}
    (hq : 0 ≤ q ∧ q ≤ 255) (e8 : Int) (k : Nat × Nat × Int) {x' y' : Nat} (hx' : x' < w) (hy' : y' < h) :
    cellAt (kernelCell w h x y q e8 I k) y' x' =
      if x' = x + k.1 ∧ y' = y + k.2.1 then kernelValue q e8 (cellAt I y' x') k.2.2 else cellAt I y' x' := by
  rw [kernelCell_eq]
  by_cases htarget : x' = x + k.1 ∧ y' = y + k.2.1
  · obtain ⟨rfl, rfl⟩ := htarget
    have hv := kernelValue_mem_range hq e8 (cellAt I (y + k.2.1) (x + k.1)) k.2.2
    rw [if_pos ⟨hx', hy'⟩, if_pos (And.intro rfl rfl)]
    exact cellAt_setCell_same hI _ hy' hx' (by omega) (by omega)
  · rw [if_neg htarget]
    split
    · exact cellAt_setCell_other I _ (by omega)
    · rfl

/-- The four targets of a step are distinct, so each cell is written by one of them at most. -/
theorem cellAt_ditherStep {w h : Nat} {I : List (List Half)} (hI : Sized w h I) (x y : Nat) {x' y' : Nat}
    (hx' : x' < w) (hy' : y' < h) :
    cellAt (ditherStep w h I (x, y)) y' x' =
      if x' = x ∧ y' = y then quantize (cellAt I y x)
      else if x' = x + 1 ∧ y' = y then clamp255 (cellAt I y' x' + diffusedError (cellAt I y x) * 3)
      else if x' = x ∧ y' = y + 1 then clamp255 (cellAt I y' x' + diffusedError (cellAt I y x) * 3)
      else if x' = x + 1 ∧ y' = y + 1 then clamp255 (cellAt I y' x' + diffusedError (cellAt I y x) * 2)
      else cellAt I y' x' := by
  have hq := quantize_mem_range (cellAt I y x)
  have hS (k : Nat × Nat × Int) {J : List (List Half)} (hJ : Sized w h J) :=
    kernelCell_sized hJ x y (quantize (cellAt I y x)) (diffusedError (cellAt I y x)) k
  simp only [ditherStep, Config.kernel, List.foldl_cons, List.foldl_nil]
  rw [cellAt_kernelCell (hS _ (hS _ (hS _ hI))) x y hq _ _ hx' hy',
    cellAt_kernelCell (hS _ (hS _ hI)) x y hq _ _ hx' hy', cellAt_kernelCell (hS _ hI) x y hq _ _ hx' hy',
    cellAt_kernelCell hI x y hq _ _ hx' hy']
  by_cases hcol : x' = x <;> by_cases hrow : y' = y <;> simp [hcol, hrow, kernelValue, Config.sentinel]

/-- Settles O44, by the four kernel cells in turn. -/
theorem ditherStepWritesKernel : Obligations.DitherStepWritesKernel :=
  fun _ _ _ x y hI _ _ _ _ _ hx' hy' => cellAt_ditherStep hI x y hx' hy'

/-! ### The range -/

/-- A step keeps the range, since what it writes is an endpoint or clamped. -/
theorem ditherStep_cellsInRange {w h : Nat} {I : List (List Half)} (hI : Sized w h I) (hr : CellsInRange w h I)
    (q : Nat × Nat) : CellsInRange w h (ditherStep w h I q) := by
  intro x y hx hy
  rw [cellAt_ditherStep hI q.1 q.2 hx hy]
  split_ifs
  · exact quantize_mem_range _
  · exact clamp255_mem_range _
  · exact clamp255_mem_range _
  · exact clamp255_mem_range _
  · exact hr x y hx hy

/-- Settles O45: every step keeps the size and the range. -/
theorem ditherCellsStayInRange : Obligations.DitherCellsStayInRange := fun w h _ hI hr _ =>
  (List.foldlRecOn (motive := fun J => Sized w h J ∧ CellsInRange w h J) _ _ ⟨hI, hr⟩
    fun _ ⟨hJ, hJr⟩ q _ => ⟨ditherStep_sized hJ q, ditherStep_cellsInRange hJ hJr q⟩).2

/-! ### The raster order -/

/-- Pixel `p` comes before pixel `q` in raster order (R171). -/
def Precedes (p q : Nat × Nat) : Prop := p.2 < q.2 ∨ p.2 = q.2 ∧ p.1 < q.1

theorem raster_pairwise_precedes (w h : Nat) : (raster w h).Pairwise Precedes := by
  refine List.pairwise_flatMap.2 ⟨fun y _ => ?_, List.pairwise_lt_range.imp fun {y y'} hlt p hp q hq => ?_⟩
  · exact List.pairwise_map.2 (List.pairwise_lt_range.imp fun hlt => .inr ⟨rfl, hlt⟩)
  · obtain ⟨_, _, rfl⟩ := List.mem_map.1 hp
    obtain ⟨_, _, rfl⟩ := List.mem_map.1 hq
    exact .inl hlt

/-- No later step writes a cell (R172). -/
theorem cellAt_ditherStep_of_precedes {w h : Nat} {I : List (List Half)} (hI : Sized w h I) {x y : Nat} {q : Nat × Nat}
    (hx : x < w) (hy : y < h) (hlt : Precedes (x, y) q) : cellAt (ditherStep w h I q) y x = cellAt I y x := by
  simp only [Precedes] at hlt
  rw [cellAt_ditherStep hI q.1 q.2 hx hy]
  rw [if_neg (by omega), if_neg (by omega), if_neg (by omega), if_neg (by omega)]

theorem cellAt_foldl_ditherStep_of_precedes {w h x y : Nat} (hx : x < w) (hy : y < h) {qs : List (Nat × Nat)}
    (hafter : ∀ q ∈ qs, Precedes (x, y) q) {I : List (List Half)} (hI : Sized w h I) :
    cellAt (qs.foldl (ditherStep w h) I) y x = cellAt I y x :=
  (List.foldlRecOn (motive := fun J => Sized w h J ∧ cellAt J y x = cellAt I y x) qs _ ⟨hI, rfl⟩
    fun _ ⟨hJ, hkept⟩ q hq =>
      ⟨ditherStep_sized hJ q, (cellAt_ditherStep_of_precedes hJ hx hy (hafter q hq)).trans hkept⟩).2

/-- The steps in raster order leave an endpoint in each of their cells: a step writes it, the later ones keep it. -/
theorem foldl_ditherStep_black_or_white {w h x y : Nat} (hx : x < w) (hy : y < h) {qs : List (Nat × Nat)}
    (horder : qs.Pairwise Precedes) {I : List (List Half)} (hI : Sized w h I) (hmem : (x, y) ∈ qs) :
    cellAt (qs.foldl (ditherStep w h) I) y x = 0 ∨ cellAt (qs.foldl (ditherStep w h) I) y x = 255 := by
  induction qs generalizing I with
  | nil => exact absurd hmem List.not_mem_nil
  | cons q qs ih =>
    obtain ⟨hafter, horder⟩ := List.pairwise_cons.1 horder
    have hJ := ditherStep_sized hI q
    rcases List.mem_cons.1 hmem with rfl | hmem
    · rw [List.foldl_cons, cellAt_foldl_ditherStep_of_precedes hx hy hafter hJ, cellAt_ditherStep hI x y hx hy,
        if_pos ⟨rfl, rfl⟩]
      exact quantize_black_or_white _
    · exact ih horder hJ hmem

/-- Settles O46, by the raster order. -/
theorem ditherClosure : Obligations.DitherClosure := fun w h _ hI _ _ _ hx hy =>
  foldl_ditherStep_black_or_white hx hy (raster_pairwise_precedes w h) hI (mem_raster.2 ⟨hx, hy⟩)

/-! ### The threshold pass -/

theorem cellAt_threshStep {w h : Nat} {I : List (List Half)} (hI : Sized w h I) {x y : Nat} (hx : x < w) (hy : y < h)
    (q : Nat × Nat) :
    cellAt (threshStep I q) y x = if (x, y) = q then quantize (cellAt I y x) else cellAt I y x := by
  split
  next hown =>
    obtain rfl := hown
    have hq := quantize_mem_range (cellAt I y x)
    exact cellAt_setCell_same hI (quantize (cellAt I y x)) hy hx (by omega) (by omega)
  next hother =>
    have hne : q.2 ≠ y ∨ q.1 ≠ x := by
      by_contra! heq
      exact hother (Prod.ext heq.2.symm heq.1.symm)
    exact cellAt_setCell_other I _ hne

theorem threshStep_sized {w h : Nat} {I : List (List Half)} (hI : Sized w h I) (q : Nat × Nat) :
    Sized w h (threshStep I q) :=
  setCell_sized hI ..

/-- Each cell the pass visits is quantized on the value it had before the pass, the others stay. -/
theorem cellAt_foldl_threshStep {w h x y : Nat} (hx : x < w) (hy : y < h) (qs : List (Nat × Nat)) {I : List (List Half)}
    (hI : Sized w h I) :
    cellAt (qs.foldl threshStep I) y x = if (x, y) ∈ qs then quantize (cellAt I y x) else cellAt I y x := by
  induction qs generalizing I with
  | nil => exact (if_neg List.not_mem_nil).symm
  | cons q qs ih =>
    rw [List.foldl_cons, ih (threshStep_sized hI q), cellAt_threshStep hI hx hy]
    by_cases hown : (x, y) = q <;> by_cases hlater : (x, y) ∈ qs <;> simp [hown, hlater]

/-- Settles O48: the pass visits every pixel. -/
theorem thresholdIsPerPixel : Obligations.ThresholdIsPerPixel := by
  intro w h I hI _ x y hx hy
  rw [threshPlane, cellAt_foldl_threshStep hx hy _ hI, if_pos (mem_raster.2 ⟨hx, hy⟩), quantize_eq]

end Sys2Proof.Machine

/-! PROOFS. The line buffers (R174, R175, O47): a step in the top row touches two rows only, so the row fold on the whole
plane is the row fold on the two buffers, and the rows below are dithered as a plane of their own. -/

namespace Sys2Proof.Machine

open Sys2Proof

/-! ### A step below a row -/

theorem kernelCell_succ_row (w h x y : Nat) (q e8 : Int) (r : List Half) (I : List (List Half)) (k : Nat × Nat × Int) :
    kernelCell w (h + 1) x (y + 1) q e8 (r :: I) k = r :: kernelCell w h x y q e8 I k := by
  have hrow : y + 1 + k.2.1 = y + k.2.1 + 1 := Nat.add_right_comm ..
  simp only [kernelCell_eq, hrow, Nat.add_lt_add_iff_right]
  split <;> rfl

/-- A step never reaches the row above its own. -/
theorem ditherStep_succ_row (w h : Nat) (r : List Half) (I : List (List Half)) (q : Nat × Nat) :
    ditherStep w (h + 1) (r :: I) (q.1, q.2 + 1) = r :: ditherStep w h I q :=
  List.foldl_hom (List.cons r) fun J k =>
    kernelCell_succ_row w h q.1 q.2 (quantize (cellAt I q.2 q.1)) (diffusedError (cellAt I q.2 q.1)) r J k

/-! ### A step above further rows -/

/-- The plane `I'` is the `n` rows `I` followed by the rows `J`. -/
def Extends (n : Nat) (J I' I : List (List Half)) : Prop := I.length = n ∧ I' = I ++ J

section Extends

variable {n : Nat} {J I' I : List (List Half)}

theorem cellAt_of_extends (hE : Extends n J I' I) {y : Nat} (hy : y < n) (x : Nat) : cellAt I' y x = cellAt I y x := by
  obtain ⟨rfl, rfl⟩ := hE
  rw [cellAt, List.getD_append _ _ _ _ hy, cellAt]

theorem setCell_extends (hE : Extends n J I' I) {y : Nat} (hy : y < n) (x : Nat) (v : Int) :
    Extends n J (setCell I' y x v) (setCell I y x v) := by
  obtain ⟨rfl, rfl⟩ := hE
  refine ⟨List.length_set, ?_⟩
  rw [setCell, List.getD_append _ _ _ _ hy, List.set_append_left _ _ hy, setCell]

/-- A target within the first `n` rows is the same target in the longer plane. -/
theorem kernelCell_extends (hE : Extends n J I' I) (w x : Nat) {y : Nat} (q e8 : Int) {k : Nat × Nat × Int}
    (hk : y + k.2.1 < n) :
    Extends n J (kernelCell w (n + J.length) x y q e8 I' k) (kernelCell w n x y q e8 I k) := by
  have hlonger : y + k.2.1 < n + J.length := Nat.lt_add_right _ hk
  simp only [kernelCell_eq, hk, hlonger, and_true, cellAt_of_extends hE hk]
  split
  · exact setCell_extends hE hk ..
  · exact hE

/-- A step reads and writes no row beyond the next one (R175). -/
theorem ditherStep_extends (hE : Extends n J I' I) (w x : Nat) {y : Nat} (hy : y + 1 < n) :
    Extends n J (ditherStep w (n + J.length) I' (x, y)) (ditherStep w n I (x, y)) := by
  have hrows : ∀ k ∈ Config.kernel, k.2.1 ≤ 1 := by decide
  have hown : cellAt I' y x = cellAt I y x := cellAt_of_extends hE (Nat.lt_of_succ_lt hy) x
  simp only [ditherStep, hown]
  exact List.foldl_rel hE fun k hk _ _ hE =>
    kernelCell_extends hE w x _ _ ((Nat.add_le_add_left (hrows k hk) y).trans_lt hy)

end Extends

/-! ### The top row -/

/-- The steps of row 0 on a plane of `h` rows. -/
def ditherTopRow (w h : Nat) (I : List (List Half)) : List (List Half) :=
  (List.range w).foldl (fun I x => ditherStep w h I (x, 0)) I

theorem ditherTopRow_extends {J I' I : List (List Half)} (hE : Extends 2 J I' I) (w : Nat) :
    Extends 2 J (ditherTopRow w (2 + J.length) I') (ditherTopRow w 2 I) :=
  List.foldl_rel hE fun x _ _ _ hE => ditherStep_extends hE w x Nat.one_lt_two

theorem ditherStep_length (w h : Nat) (I : List (List Half)) (q : Nat × Nat) : (ditherStep w h I q).length = I.length := by
  refine List.foldlRecOn (motive := fun J : List (List Half) => J.length = I.length) _ _ rfl fun J hJ k _ => ?_
  rw [kernelCell_eq]
  split
  · exact List.length_set.trans hJ
  · exact hJ

theorem ditherTopRow_length (w h : Nat) (I : List (List Half)) : (ditherTopRow w h I).length = I.length :=
  List.foldlRecOn (motive := fun J : List (List Half) => J.length = I.length) _ _ rfl
    fun J hJ x _ => (ditherStep_length w h J (x, 0)).trans hJ

/-- Row 0 comes first, then the raster of the rows below. -/
theorem raster_succ (w h : Nat) :
    raster w (h + 1) = (List.range w).map (fun x => (x, 0)) ++ (raster w h).map fun q => (q.1, q.2 + 1) := by
  simp [raster, List.range_succ_eq_map, List.flatMap_map, List.map_flatMap, Function.comp_def]

/-- A row is final after its own steps; those below work on the rows below (R172). -/
theorem ditherPlane_of_topRow {w h : Nat} {I J : List (List Half)} {r : List Half}
    (htop : ditherTopRow w (h + 1) I = r :: J) : ditherPlane w (h + 1) I = r :: ditherPlane w h J := by
  rw [ditherPlane, raster_succ, List.foldl_append, List.foldl_map, List.foldl_map]
  change (raster w h).foldl _ (ditherTopRow w (h + 1) I) = _
  rw [htop]
  exact List.foldl_hom (List.cons r) fun J q => ditherStep_succ_row w h r J q

/-! ### The buffers -/

/-- The buffers that hold `cur` and the converted rows below it give the bits of the plane of these rows. -/
theorem ditherLines_bits (w : Nat) (cur free : List Half) (rest : List (List Half)) :
    (ditherLines w cur free rest).1 = planeBits (ditherPlane w (rest.length + 1) (cur :: rest)) := by
  induction rest generalizing cur free with
  | nil =>
    obtain ⟨r, htop⟩ := List.length_eq_one_iff.1 (ditherTopRow_length w 1 [cur])
    have hline : (ditherLine w cur none).1 = r := congrArg (List.getD · 0 []) htop
    rw [List.length_nil, ditherPlane_of_topRow htop, ditherLines, hline]
    rfl
  | cons nxt rest ih =>
    obtain ⟨r, n, htop⟩ := List.length_eq_two.1 (ditherTopRow_length w 2 [cur, nxt])
    have hrow : (ditherLine w cur (some nxt)).1 = r := congrArg (List.getD · 0 []) htop
    have hnext : (ditherLine w cur (some nxt)).2.getD [] = n := congrArg (List.getD · 1 []) htop
    have hE : Extends 2 rest (cur :: nxt :: rest) [cur, nxt] := ⟨rfl, rfl⟩
    have hplane : ditherTopRow w (rest.length + 1 + 1) (cur :: nxt :: rest) = r :: n :: rest := by
      rw [← Nat.add_comm 2, (ditherTopRow_extends hE w).2, htop]
      rfl
    rw [List.length_cons, ditherPlane_of_topRow hplane, ditherLines, hrow, hnext, ih]
    rfl

/-- Settles O47, by induction on the rows. -/
theorem lineBuffersGiveSameBits : Obligations.LineBuffersGiveSameBits := by
  rintro w _ b0 b1 I ⟨rfl, -⟩
  cases I with
  | nil => rfl
  | cons cur rest => exact ditherLines_bits w cur b1 rest

end Sys2Proof.Machine

/-! PROOFS. The packer (42_packer.md): the bits of a packed byte (O50), the columns of the panels as consecutive runs that
partition the window (O51), the panel-local addresses of a transfer (O52). -/

namespace Sys2Proof.Machine

open Sys2Proof

/-! ### The packed byte -/

/-- Settles O50: bit `i` of the byte is entry `i` of the list it is made of. -/
theorem packedBitIsPixel : Obligations.PackedBitIsPixel := by
  intro bp neg x p i hi
  refine BitVec.getLsbD_ofBoolListLE.trans ?_
  simp [hi]

/-! ### The columns of a panel -/

theorem windowColumns_eq_range' (p : Params) (w : Window) (h : Panel) :
    windowColumns p w h = List.range' (firstColumn p w h) (lastColumn p w h + 1 - firstColumn p w h) :=
  (List.range'_eq_map_range ..).symm

/-- The columns of a touched panel start no later than they end (R191 to R193). -/
theorem firstColumn_le_lastColumn {p : Params} {w : Window} {h : Panel} (hw : w.xs.toNat ≤ w.xe.toNat)
    (ht : touches p w h = true) : firstColumn p w h ≤ lastColumn p w h := by
  cases h with
  | left => exact le_min hw (Nat.le_sub_one_of_lt ((touches_left_iff p w).1 ht))
  | right => exact max_le hw ((touches_right_iff p w).1 ht)

/-- The two panels' columns join at the boundary; where one panel alone is touched, its columns are the window's. -/
theorem flatMap_windowColumns {p : Params} {w : Window} (hw : w.xs.toNat ≤ w.xe.toNat) :
    (([Panel.left, Panel.right].filter fun h => touches p w h).flatMap fun h => windowColumns p w h) =
      List.range' w.xs.toNat (w.xe.toNat + 1 - w.xs.toNat) := by
  simp only [List.filter_cons, List.filter_nil, touches_left_iff, touches_right_iff]
  split_ifs with hxs hxe hxe <;>
    simp only [List.flatMap_cons, List.flatMap_nil, List.append_nil, windowColumns_eq_range', firstColumn,
      lastColumn, boundary]
  · have hjoin : max w.xs.toNat (p.width / 2) = w.xs.toNat + (p.width / 2 - w.xs.toNat) := by omega
    have hleft : min w.xe.toNat (p.width / 2 - 1) + 1 - w.xs.toNat = p.width / 2 - w.xs.toNat := by omega
    rw [hleft, hjoin, List.range'_append_1]
    congr 1
    omega
  · rw [min_eq_left (by omega)]
  · rw [max_eq_left (by omega)]
  · omega

/-- Settles O51: the two runs of columns join into the window's, and a touched panel's run is not empty. -/
theorem panelsPartitionWindow : Obligations.PanelsPartitionWindow := by
  intro p w hw
  refine ⟨(flatMap_windowColumns hw).trans (List.range'_eq_map_range ..), fun h ht hnil => ?_⟩
  have hlen := windowColumns_length p w h
  have hle := firstColumn_le_lastColumn hw ht
  rw [hnil, List.length_nil] at hlen
  omega

/-! ### The panel-local addresses -/

theorem mem_windowPages {w : Window} {pg : Nat} :
    pg ∈ windowPages w ↔ w.ysPage.toNat ≤ pg ∧ pg ≤ w.yePage.toNat := by
  rw [windowPages, ← List.range'_eq_map_range, List.mem_range'_1]
  omega

theorem geometryOk_iff (p : Params) : geometryOk p = true ↔
    p.width % 2 = 0 ∧ 2 ≤ p.width ∧ p.width ≤ 256 ∧ p.height % 8 = 0 ∧ 8 ≤ p.height ∧ p.height ≤ 256 ∧
    boundary p ≤ p.panelCols ∧ pageCount p ≤ p.panelPages := by
  simp [geometryOk, and_assoc]

theorem windowOk_iff (p : Params) (w : Window) : windowOk p w = true ↔
    w.xs.toNat ≤ w.xe.toNat ∧ w.xe.toNat < p.width ∧ w.ysPage.toNat ≤ w.yePage.toNat ∧
    w.yePage.toNat < pageCount p := by
  simp [windowOk, and_assoc]

/-- A transfer's local columns end below B: the left panel's end below the boundary, the right panel's below W = 2B. -/
theorem columnStart_add_length_le {p : Params} {w : Window} {h : Panel} (heven : p.width % 2 = 0)
    (hxs : w.xs.toNat ≤ w.xe.toNat) (hxe : w.xe.toNat < p.width) (ht : touches p w h = true) :
    columnStart p w h + (windowColumns p w h).length ≤ boundary p := by
  have hle := firstColumn_le_lastColumn hxs ht
  rw [windowColumns_length]
  cases h with
  | left =>
    have hB := (touches_left_iff p w).1 ht
    simp only [columnStart, firstColumn, lastColumn, boundary] at hle ⊢
    omega
  | right =>
    simp only [columnStart, firstColumn, lastColumn, boundary] at hle ⊢
    omega

/-- Settles O52: the columns stay below B, the pages below H / 8, and R11 bounds both by the panel's own size. -/
theorem localAddressesInRange : Obligations.LocalAddressesInRange := by
  refine fun p w => ⟨rfl, rfl, fun h hgeom hwin ht => ?_⟩
  obtain ⟨heven, -, -, -, -, -, hcols, hpages⟩ := (geometryOk_iff p).1 hgeom
  obtain ⟨hxs, hxe, -, hye⟩ := (windowOk_iff p w).1 hwin
  refine ⟨columnStart_add_length_le heven hxs hxe ht, hcols, fun pg hpg => ?_⟩
  obtain ⟨hfirst, hlast⟩ := mem_windowPages.1 hpg
  exact ⟨hfirst, hlast, hlast.trans_lt (hye.trans_le hpages)⟩

end Sys2Proof.Machine

/-! PROOFS. The chip-selects over every step (R215, R240; O34): what a list of events may do to them, each bus operation as
such a list, then the dispatches of the instructions, the positions and the events. -/

namespace Sys2Proof.Machine

open Sys2Proof

/-! ### Lists of events that keep the chip-selects exclusive -/

theorem csSafe_nil {l : Lines} (hl : csExclusive l) : CsSafe l [] := fun n => by rwa [List.take_nil]

theorem CsSafe.exclusive {l : Lines} {es : List BusEvent} (h : CsSafe l es) : csExclusive (linesAfter l es) := by
  have hall := h es.length
  rwa [List.take_length] at hall

theorem CsSafe.take {l : Lines} {es : List BusEvent} (h : CsSafe l es) (n : Nat) : CsSafe l (es.take n) := fun k => by
  rw [List.take_take]
  exact h _

theorem CsSafe.append {l : Lines} {es fs : List BusEvent} (h : CsSafe l es) (k : CsSafe (linesAfter l es) fs) :
    CsSafe l (es ++ fs) := fun n => by
  rw [List.take_append, linesAfter_append]
  obtain hn | hn := Nat.le_total n es.length
  · rw [Nat.sub_eq_zero_of_le hn, List.take_zero]
    exact h n
  · rw [List.take_of_length_le hn]
    exact k _

/-- Only the assertion of a chip-select can break R215. -/
theorem csExclusive_applyEvent {l : Lines} {e : BusEvent} (he : ∀ h, e ≠ .cs h .asserted) (hl : csExclusive l) :
    csExclusive (applyEvent l e) := by
  cases e with
  | cs h v =>
    cases v with
    | asserted => exact absurd rfl (he h)
    | deasserted => cases h <;> simp [applyEvent, csExclusive]
  | mode | data | e | rw | wait | fault => exact hl

theorem csExclusive_linesAfter {l : Lines} {es : List BusEvent} (hes : ∀ h, .cs h .asserted ∉ es) (hl : csExclusive l) :
    csExclusive (linesAfter l es) :=
  List.foldlRecOn (motive := csExclusive) es applyEvent hl fun _ hk _ he =>
    csExclusive_applyEvent (fun h heq => hes h (heq ▸ he)) hk

theorem csSafe_of_no_select {l : Lines} {es : List BusEvent} (hes : ∀ h, .cs h .asserted ∉ es) (hl : csExclusive l) :
    CsSafe l es := fun _ => csExclusive_linesAfter (fun h he => hes h (List.mem_of_mem_take he)) hl

/-- CHIP_SELECT deasserts the other line first (R216). -/
theorem csSafe_chipSelect {l : Lines} (h : Panel) (hl : csExclusive l) :
    CsSafe l [.cs (otherPanel h) .deasserted, .cs h .asserted]
  | 0 => hl
  | 1 => csSafe_of_no_select (es := [.cs (otherPanel h) .deasserted]) (by simp) hl 1
  | _ + 2 => by cases h <;> simp [linesAfter, applyEvent, otherPanel, csExclusive]

theorem cs_not_mem_byteEvents (p : Params) (b : Byte) (d : LineDraw) (h : Panel) (v : Level) :
    .cs h v ∉ byteEvents p b d := by
  have hemit : .cs h v ∉ emitEvents p b := by simp [emitEvents]
  cases d with
  | ok => exact hemit
  | fail c n => simpa [byteEvents, recoveryEvents] using fun hmem => hemit (List.mem_of_mem_take hmem)

/-! ### The bus operations -/

/-- From exclusive chip-selects, exactly some list of events was driven that keeps them so (R215). -/
def DroveSafe (s t : State) : Prop := csExclusive s.lines → ∃ es, Drove s t es ∧ CsSafe s.lines es

theorem DroveSafe.of_same {s t : State} (htrace : t.trace = s.trace) (hlines : t.lines = s.lines) : DroveSafe s t :=
  fun hs => ⟨[], Drove.of_same htrace hlines, csSafe_nil hs⟩

theorem DroveSafe.refl (s : State) : DroveSafe s s := .of_same rfl rfl

theorem DroveSafe.trans {s t u : State} (h : DroveSafe s t) (k : DroveSafe t u) : DroveSafe s u := fun hs => by
  obtain ⟨es, ⟨htrace, hlines⟩, hsafe⟩ := h hs
  obtain ⟨fs, kdrove, ksafe⟩ := k (hlines ▸ hsafe.exclusive)
  exact ⟨es ++ fs, .trans ⟨htrace, hlines⟩ kdrove, hsafe.append (hlines ▸ ksafe)⟩

theorem Drove.droveSafe {s t : State} {es : List BusEvent} (h : Drove s t es) (hes : ∀ h, .cs h .asserted ∉ es) :
    DroveSafe s t := fun hs => ⟨es, h, csSafe_of_no_select hes hs⟩

theorem chipSelect_droveSafe (h : Panel) (s : State) : DroveSafe s (chipSelect h s) :=
  fun hs => ⟨_, chipSelect_drove h s, csSafe_chipSelect h hs⟩

theorem deselectAll_droveSafe (s : State) : DroveSafe s (deselectAll s) := (deselectAll_drove s).droveSafe (by simp)

theorem setMode_droveSafe (m : BusMode) (s : State) : DroveSafe s (setMode m s) := (setMode_drove m s).droveSafe (by simp)

theorem emitByte_droveSafe (c : ByteCtx) (b : Byte) (s : State) : DroveSafe s (emitByte c b s) :=
  (emitByte_drove c b s).droveSafe fun _ => cs_not_mem_byteEvents _ _ _ _ _

/-- A transfer begins with CHIP_SELECT and SET_MODE, whichever panel was selected before (R230, R239). -/
theorem select_droveSafe (h : Panel) (m : BusMode) (s : State) : DroveSafe s (setMode m (chipSelect h s)) :=
  (chipSelect_droveSafe h s).trans (setMode_droveSafe m _)

theorem sendBytes_droveSafe (h : Panel) (page n k : Nat) (bs : List Byte) (s : State) :
    DroveSafe s (sendBytes h page n k bs s).2 := by
  induction bs generalizing k s with
  | nil => exact .refl s
  | cons b bs ih =>
    have hbyte : DroveSafe s (emitByte (transferCtx h page n k) b { s with seq := .emit page h k }) :=
      emitByte_droveSafe _ b { s with seq := .emit page h k }
    unfold sendBytes
    dsimp only
    split
    · exact hbyte.trans (ih _ _)
    · exact hbyte

theorem transfer_droveSafe (r : PageRecord) (s : State) : DroveSafe s (transfer r s).2 := by
  have hcmd : DroveSafe s (sendCommands r s).2 := (select_droveSafe _ _ s).trans (sendBytes_droveSafe _ _ _ _ _ _)
  unfold transfer
  split
  next s1 heq => rw [heq] at hcmd; exact (hcmd.trans (setMode_droveSafe _ s1)).trans (sendBytes_droveSafe _ _ _ _ _ _)
  next heq => rw [heq] at hcmd; exact hcmd

theorem emitPage_droveSafe (s : State) (p : Nat) : DroveSafe s (emitPage s p) :=
  have htransfers := List.foldlRecOn (motive := DroveSafe s) (packRow s p) (fun t r => (transfer r t).2) (.refl s)
    fun t ht r _ => ht.trans (transfer_droveSafe r t)
  htransfers.trans (deselectAll_droveSafe _)

theorem emitPhase_droveSafe (s : State) : DroveSafe s (emitPhase s) :=
  List.foldlRecOn (motive := DroveSafe s) (windowPages s.win) emitPage (.refl s)
    fun t ht p _ => ht.trans (emitPage_droveSafe t p)

theorem rawTransfer_droveSafe (h : Panel) (m : BusMode) (b : Byte) (s : State) : DroveSafe s (rawTransfer h m b s) :=
  ((select_droveSafe h m { s with seq := .raw h m b }).trans (emitByte_droveSafe _ _ _)).trans (deselectAll_droveSafe _)

/-! ### The instructions -/

theorem finishFlush_droveSafe (s : State) : DroveSafe s (finishFlush s) := .of_same rfl rfl

/-- The phases before a FLUSH's emit phase and its end drive no line (R255, R256, R258). -/
theorem flushRun_droveSafe (s : State) : DroveSafe s (flushRun s) := by
  obtain ⟨q, I, bp, l0, l1, hphases⟩ := phases_onlyWork s.dither s
  have hstart : DroveSafe s (quantizePhase s.dither (convertPhase s)) := hphases ▸ .of_same rfl rfl
  exact hstart.trans ((emitPhase_droveSafe _).trans (finishFlush_droveSafe _))

theorem execFlush_droveSafe {s t : State} (h : execFlush s = .next t) : DroveSafe s t := by
  unfold execFlush at h
  dsimp only at h
  split_ifs at h with hcfg hwin
  · cases h; exact .of_same rfl rfl
  · cases h; exact .of_same rfl rfl
  · split at h
    · cases h
    · cases h; exact flushRun_droveSafe (startOp s)

/-- BUS_CMD and BUS_DATA: the gated CONFIG result drives nothing. -/
theorem rawOp_droveSafe (h : Panel) (m : BusMode) (b : Byte) (s : State) :
    DroveSafe s (if (startOp s).cfgErr then failWith .config (startOp s)
      else finishOp (rawTransfer h m b (startOp s))) := by
  split
  · exact .of_same rfl rfl
  · exact rawTransfer_droveSafe h m b (startOp s)

theorem flushByte_droveSafe {b : Byte} {s t : State} (h : flushByte b s = .next t) : DroveSafe s t := by
  unfold flushByte at h
  split at h
  · cases h; exact emitByte_droveSafe _ b s
  · cases h

theorem rawByte_droveSafe {m : BusMode} {b : Byte} {s t : State} (h : rawByte m b s = .next t) : DroveSafe s t := by
  unfold rawByte at h
  split at h
  · split at h
    · cases h; exact emitByte_droveSafe _ b s
    · cases h
  · cases h

/-- The operations drive their events, the emitted bytes theirs; no other instruction touches the bus (`ExecWrites`). -/
theorem exec_droveSafe {i : Instr} {s t : State} (h : exec i s = .next t) : DroveSafe s t := by
  have hw := exec_writes h
  cases i with
  | flush => exact execFlush_droveSafe h
  | busCmd p b => cases h; exact rawOp_droveSafe p .cmd b s
  | busData p b => cases h; exact rawOp_droveSafe p .data b s
  | displayOn | setColumn | setPage | pageData => exact flushByte_droveSafe h
  | rawCmd | rawData => exact rawByte_droveSafe h
  | setWindow => obtain ⟨w, v, c, rfl⟩ := hw; exact .of_same rfl rfl
  | wrCtrl | wrFbBase => cases hw; exact .of_same rfl rfl
  | _ => obtain ⟨log, rfl⟩ := hw; exact .of_same rfl rfl

/-! ### The positions inside an operation -/

theorem enterTransfer_droveSafe (p : Nat) (h : Panel) (s : State) : DroveSafe s (enterTransfer p h s) :=
  select_droveSafe h .cmd s

theorem enterPage_droveSafe (p : Nat) (s : State) : DroveSafe s (enterPage p s) := by
  unfold enterPage
  split_ifs
  · exact enterTransfer_droveSafe p .left s
  · exact enterTransfer_droveSafe p .right s
  · exact .of_same rfl rfl

theorem ditherAt_droveSafe (y x : Nat) (s : State) : DroveSafe s (ditherAt y x s) := by
  obtain ⟨l0, l1, hdither⟩ := ditherAt_eq y x s
  rw [hdither]
  dsimp only
  split
  · exact enterPage_droveSafe _ { quantizeCell s.dither s (x, y) with lb0 := l0, lb1 := l1, bp := _ }
  · exact .of_same rfl rfl

theorem afterTransfer_droveSafe (p : Nat) (h : Panel) (s : State) : DroveSafe s (afterTransfer p h s) := by
  unfold afterTransfer
  split
  · exact enterTransfer_droveSafe p .right s
  · exact .of_same rfl rfl

theorem afterByte_droveSafe (p : Nat) (h : Panel) (k : Nat) (failed : Bool) (s : State) :
    DroveSafe s (afterByte p h k failed s) := by
  unfold afterByte
  split_ifs
  · exact afterTransfer_droveSafe p h s
  · exact setMode_droveSafe .data s
  · exact .of_same rfl rfl

theorem rowEndAt_droveSafe (p : Nat) (s : State) : DroveSafe s (rowEndAt p s) := by
  unfold rowEndAt
  split
  · exact (deselectAll_droveSafe s).trans (enterPage_droveSafe _ _)
  · exact deselectAll_droveSafe s

theorem busyStep_droveSafe {s t : State} (h : busyStep s = .next t) : DroveSafe s t := by
  unfold busyStep at h
  split at h
  case h_1 => cases h; exact .refl s
  case h_2 y x _ =>
    split at h
    · split at h
      · cases h
      · cases h; exact .of_same rfl rfl
    · cases h
  case h_3 y x _ =>
    split at h
    · cases h; exact ditherAt_droveSafe y x s
    · cases h
  case h_4 p panel k _ =>
    split at h
    · cases h
    · split at h
      next s' hexec => cases h; exact (exec_droveSafe hexec).trans (afterByte_droveSafe _ _ _ _ s')
      all_goals cases h
  case h_5 p _ => cases h; exact rowEndAt_droveSafe p s
  case h_6 panel m b _ =>
    split at h
    next s' hexec =>
      cases h
      exact ((select_droveSafe panel m s).trans (exec_droveSafe hexec)).trans (deselectAll_droveSafe s')
    all_goals cases h

/-! ### The events -/

/-- The six reset events leave the reset levels, whatever the lines were (R331). -/
theorem linesAfter_resetEvents (l : Lines) : linesAfter l resetEvents = Lines.atReset := rfl

theorem csSafe_resetEvents {l : Lines} (hl : csExclusive l) : CsSafe l resetEvents :=
  csSafe_of_no_select (by simp [resetEvents]) hl

theorem hwReset_droveSafe (l : Bool) (s : State) : DroveSafe s (hwReset l s) :=
  fun hs => ⟨resetEvents, ⟨rfl, rfl⟩, csSafe_resetEvents hs⟩

/-- Of a transaction cut off by reset, its first events stay (R332). -/
theorem resetCut_droveSafe {s t : State} (h : DroveSafe s t) (l : Bool) (n : Nat) : DroveSafe s (resetCut l n s t) :=
  fun hs => by
    obtain ⟨es, ⟨htrace, -⟩, hsafe⟩ := h hs
    have hcut : (resetCut l n s t).trace = s.trace ++ (es.take n ++ resetEvents) := by
      simp [resetCut, htrace]
    refine ⟨es.take n ++ resetEvents, ⟨hcut, ?_⟩, (hsafe.take n).append (csSafe_resetEvents (hsafe n))⟩
    rw [linesAfter_append, linesAfter_resetEvents]
    rfl

theorem runAccess_droveSafe {a : Transaction} {s t : State} (h : runAccess a s = .next t) : DroveSafe s t := by
  unfold runAccess at h
  split at h
  · cases h
  · exact exec_droveSafe h

theorem cutAccess_droveSafe {a : Transaction} {n : Nat} {l : Bool} {s t : State} (h : cutAccess a n l s = .next t) :
    DroveSafe s t := by
  unfold cutAccess at h
  split at h
  next s' hrun => cases h; exact resetCut_droveSafe (runAccess_droveSafe hrun) l n
  next => cases h; exact hwReset_droveSafe l s
  next => cases h

/-- Taking the next event from the list drives no line. -/
theorem inputs_droveSafe (s : State) (ins : List HostEvent) : DroveSafe s { s with inputs := ins } := .of_same rfl rfl

theorem step_droveSafe {s t : State} (h : step s = .next t) : DroveSafe s t := by
  unfold step nextEvent at h
  split at h
  next => exact busyStep_droveSafe h
  next => cases h
  next l rest _ => cases h; exact (inputs_droveSafe s rest).trans (hwReset_droveSafe l _)
  next => cases h; exact .of_same rfl rfl
  next rest _ =>
    split at h
    · cases h; exact .of_same rfl rfl
    · exact busyStep_droveSafe h
  next rest _ =>
    split at h
    · exact (inputs_droveSafe s rest).trans (runAccess_droveSafe h)
    · exact busyStep_droveSafe h
  next rest _ =>
    split at h
    · exact (inputs_droveSafe s rest).trans (cutAccess_droveSafe h)
    · exact busyStep_droveSafe h

/-- Settles O34: every step drives a list of events, and the only events that assert a chip-select are those of CHIP_SELECT,
which deasserts the other line first (R216). -/
theorem chipSelectsNeverBothAsserted : Obligations.ChipSelectsNeverBothAsserted := by
  intro s t hs hstep
  obtain ⟨es, ⟨htrace, hlines⟩, hsafe⟩ := step_droveSafe hstep hs
  exact ⟨es, htrace, hlines, hsafe⟩

end Sys2Proof.Machine

/-! PROOFS. One byte on the bus (R220 to R223): what `emit` leaves in the state under each answer of the line layer, hence
the byte forms of a FLUSH transfer (O27, O29), the raw byte forms (O28) and the raw transfers (O31, O32). -/

namespace Sys2Proof.Machine

open Sys2Proof

/-! ### The events of a byte -/

theorem driveAll_fields (es : List BusEvent) (s : State) : driveAll es s =
    { s with
      lines := linesAfter s.lines es, trace := s.trace ++ es, dly := es.foldl (dlyAfter s.cfg) s.dly } := by
  induction es generalizing s with
  | nil => simp [driveAll, linesAfter]
  | cons e es ih =>
    refine (ih (drive e s)).trans ?_
    simp [drive, linesAfter]

/-- A byte ends with a wait, its own or the recovery's, so DLY is counted out (R54, R220, R223). -/
theorem dlyAfter_byteEvents (p : Params) (b : Byte) (d : LineDraw) (dly : Nat) :
    (byteEvents p b d).foldl (dlyAfter p) dly = 0 := by
  cases d with
  | ok => simp [byteEvents, emitEvents, dlyAfter, countDown]
  | fail c n => simp [byteEvents, recoveryEvents, dlyAfter, countDown]

theorem linesAfter_byteEvents_ok (l : Lines) (p : Params) (b : Byte) :
    linesAfter l (byteEvents p b .ok) = { l with d := b, e := .deasserted } := rfl

/-- The byte is the first of the six events, so it stands on the data lines unless none was shown (R222). -/
theorem linesAfter_byteEvents_fail (l : Lines) (p : Params) (b : Byte) (c : Fin 255) (n : Fin 7) :
    linesAfter l (byteEvents p b (.fail c n)) = { l with d := if n.val = 0 then l.d else b, e := .deasserted } := by
  fin_cases n <;> rfl

/-! ### A byte -/

theorem takeDraw_eq (s : State) : takeDraw s =
    { s with
      lineDraws := s.lineDraws.tail
      drawCount := if s.lineDraws.isEmpty then s.drawCount + 1 else s.drawCount } := by
  unfold takeDraw
  split <;> simp [*]

theorem emit_eq (b : Byte) (s : State) : emit b s =
    { takeDraw s with
      lines := linesAfter s.lines (byteEvents s.cfg b (nextDraw s))
      trace := s.trace ++ byteEvents s.cfg b (nextDraw s), dly := 0 } := by
  have hdly := dlyAfter_byteEvents s.cfg b (nextDraw s) s.dly
  rw [emit, driveAll_fields]
  simp only [takeDraw_cfg, takeDraw_lines, takeDraw_trace, takeDraw_dly, hdly]

theorem emitByte_ok {s : State} (hdraw : nextDraw s = .ok) (c : ByteCtx) (b : Byte) : emitByte c b s =
    { takeDraw s with
      lines := { s.lines with d := b, e := .deasserted }, trace := s.trace ++ emitEvents s.cfg b, dly := 0 } := by
  simp only [emitByte, hdraw, failCode]
  rw [emit_eq, hdraw, linesAfter_byteEvents_ok]
  rfl

theorem raiseBusWrite_first {s : State} (h : s.firstErr = false) (c : ByteCtx) (v : Byte) :
    raiseBusWrite c v s = { s with firstErr := true, lineCode := v, errInfo := errInfoOf c } := by
  simp [raiseBusWrite, h]

/-- Only the first fault of an operation is recorded (R296). -/
theorem raiseBusWrite_later {s : State} (h : s.firstErr = true) (c : ByteCtx) (v : Byte) : raiseBusWrite c v s = s := by
  simp [raiseBusWrite, h]

theorem emit_firstErr (b : Byte) (s : State) : (emit b s).firstErr = s.firstErr := by
  rw [emit_eq]
  exact takeDraw_firstErr s

/-- The first failing byte of an operation: its events, and its record (R222, R230, R296). -/
theorem emitByte_fail_first {s : State} {v : Fin 255} {n : Fin 7} (hfirst : s.firstErr = false)
    (hdraw : nextDraw s = .fail v n) (c : ByteCtx) (b : Byte) : emitByte c b s =
      { takeDraw s with
        lines := { s.lines with d := if n.val = 0 then s.lines.d else b, e := .deasserted }
        trace := s.trace ++ byteEvents s.cfg b (.fail v n), dly := 0
        firstErr := true, lineCode := BitVec.ofNat 8 (v.val + 1), errInfo := errInfoOf c } := by
  simp only [emitByte, hdraw, failCode]
  rw [raiseBusWrite_first ((emit_firstErr b s).trans hfirst), emit_eq, hdraw, linesAfter_byteEvents_fail]

/-- A later failing byte leaves the record as it stands. -/
theorem emitByte_fail_later {s : State} {v : Fin 255} {n : Fin 7} (hfirst : s.firstErr = true)
    (hdraw : nextDraw s = .fail v n) (c : ByteCtx) (b : Byte) : emitByte c b s =
      { takeDraw s with
        lines := { s.lines with d := if n.val = 0 then s.lines.d else b, e := .deasserted }
        trace := s.trace ++ byteEvents s.cfg b (.fail v n), dly := 0 } := by
  simp only [emitByte, hdraw, failCode]
  rw [raiseBusWrite_later ((emit_firstErr b s).trans hfirst), emit_eq, hdraw, linesAfter_byteEvents_fail]

/-! ### The byte forms -/

/-- The byte `b` a FLUSH form `i` emits (R233 to R236); outside its command table it is free (log 12). -/
def EmitsByte (s : State) (i : Instr) (b : Byte) : Prop :=
  (i = .displayOn ∧ b = s.cfg.cmdDisplayOn) ∨
    (∃ j, i = .setColumn j ∧ (s.cfg.colCmd[j.toNat]? = some b ∨
      (s.cfg.colCmd[j.toNat]? = none ∧ b = Config.freeColCmd j.toNat))) ∨
    (∃ q, i = .setPage q ∧ (s.cfg.pageCmd[q.toNat]? = some b ∨
      (s.cfg.pageCmd[q.toNat]? = none ∧ b = Config.freePageCmd q.toNat))) ∨ i = .pageData b

/-- An entry of a command table, or the free value outside it (R16; log 12). -/
theorem getD_eq_of_entry {o : Option Byte} {b free : Byte} (h : o = some b ∨ (o = none ∧ b = free)) :
    o.getD free = b := by
  obtain rfl | ⟨rfl, rfl⟩ := h <;> rfl

theorem EmitsByte.exec_eq {s : State} {i : Instr} {b : Byte} (h : EmitsByte s i b) : exec i s = flushByte b s := by
  rcases h with ⟨rfl, rfl⟩ | ⟨j, rfl, hentry⟩ | ⟨q, rfl, hentry⟩ | rfl
  · rfl
  · rw [← getD_eq_of_entry hentry]; rfl
  · rw [← getD_eq_of_entry hentry]; rfl
  · rfl

theorem flushByte_emit {s : State} {p k : Nat} {h : Panel} (hseq : s.seq = .emit p h k) (b : Byte) :
    flushByte b s = .next (emitByte (transferCtx h p (windowColumns s.cfg s.win h).length k) b s) := by
  simp only [flushByte, hseq]

theorem rawByte_raw {s : State} {h : Panel} {m : BusMode} {b' : Byte} (hseq : s.seq = .raw h m b') (b : Byte) :
    rawByte m b s = .next (emitByte (rawCtx h) b s) := by
  simp only [rawByte, hseq, if_true]

/-- Settles O27: every form emits its byte through `flushByte`, and with the answer OK the byte leaves its six events. -/
theorem flushByteEmits : Obligations.FlushByteEmits := by
  intro s i b p h k hseq hdraw hform
  rw [EmitsByte.exec_eq hform, flushByte_emit hseq, emitByte_ok hdraw]
  rfl

/-- Settles O28: as O27, through `rawByte`. -/
theorem rawByteEmits : Obligations.RawByteEmits := by
  intro s i b b' h m hseq hdraw hform
  have hexec : exec i s = rawByte m b s := by
    rcases hform with ⟨rfl, rfl⟩ | ⟨rfl, rfl⟩ <;> rfl
  rw [hexec, rawByte_raw hseq, emitByte_ok hdraw]
  rfl

/-- Settles O29: the failing byte's events are the same whether or not an error stands recorded; the record turns on it. -/
theorem flushByteFaultIsRecorded : Obligations.FlushByteFaultIsRecorded := by
  intro s i b p h k c n hseq hdraw hform
  refine ⟨_, (EmitsByte.exec_eq hform).trans (flushByte_emit hseq b), ?_⟩
  obtain hfirst | hfirst := Bool.eq_false_or_eq_true s.firstErr
  · rw [emitByte_fail_later hfirst hdraw, takeDraw_eq]
    exact ⟨rfl, rfl, rfl, rfl, rfl, rfl, rfl, fun h => absurd hfirst (Bool.eq_false_iff.1 h),
      fun _ => ⟨hfirst, rfl, rfl⟩, rfl⟩
  · rw [emitByte_fail_first hfirst hdraw, takeDraw_eq]
    exact ⟨rfl, rfl, rfl, rfl, rfl, rfl, rfl, fun _ => ⟨rfl, rfl, rfl⟩,
      fun h => absurd h (Bool.eq_false_iff.1 hfirst), rfl⟩

/-! ### The raw transfers -/

/-- The events before the byte of a raw transfer: CHIP_SELECT and SET_MODE (R239, R216, R218). -/
def selectEvents (h : Panel) (m : BusMode) : List BusEvent :=
  [.cs (otherPanel h) .deasserted, .cs h .asserted, .mode m]

theorem rawTransfer_ok {s : State} (hdraw : nextDraw s = .ok) (h : Panel) (m : BusMode) (b : Byte) :
    rawTransfer h m b s =
      { takeDraw s with
        seq := .idle, dly := 0
        lines := { s.lines with d := b, e := .deasserted, mode := m, cs0 := .deasserted, cs1 := .deasserted }
        trace := s.trace ++ selectEvents h m ++ emitEvents s.cfg b ++
          [.cs .left .deasserted, .cs .right .deasserted] } := by
  have hbyte := emitByte_ok (s := setMode m (chipSelect h { s with seq := .raw h m b })) hdraw (rawCtx h) b
  simp only [rawTransfer]
  rw [hbyte]
  cases h <;> simp [deselectAll, setMode, chipSelect, takeDraw_eq, applyEvent, dlyAfter, otherPanel, selectEvents]

theorem rawTransfer_fail {s : State} {c : Fin 255} {n : Fin 7} (hfirst : s.firstErr = false)
    (hdraw : nextDraw s = .fail c n) (h : Panel) (m : BusMode) (b : Byte) :
    rawTransfer h m b s =
      { takeDraw s with
        firstErr := true, lineCode := BitVec.ofNat 8 (c.val + 1), errInfo := ⟨0, 1, 0, h⟩
        seq := .idle, dly := 0
        lines := { s.lines with
          d := if n.val = 0 then s.lines.d else b
          e := .deasserted, mode := m, cs0 := .deasserted, cs1 := .deasserted }
        trace := s.trace ++ selectEvents h m ++ byteEvents s.cfg b (.fail c n) ++
          [.cs .left .deasserted, .cs .right .deasserted] } := by
  have hbyte := emitByte_fail_first (s := setMode m (chipSelect h { s with seq := .raw h m b })) hfirst hdraw
    (rawCtx h) b
  simp only [rawTransfer]
  rw [hbyte]
  cases h <;> simp [deselectAll, setMode, chipSelect, takeDraw_eq, applyEvent, dlyAfter, otherPanel, selectEvents,
    errInfoOf, rawCtx]

/-- The transaction of a raw transfer (R260, R261). -/
def rawOp (m : BusMode) (h : Panel) (b : Byte) : Instr :=
  match m with
  | .cmd => .busCmd h b
  | .data => .busData h b

theorem exec_rawOp {s : State} (hcfg : s.cfgErr = false) (m : BusMode) (h : Panel) (b : Byte) :
    exec (rawOp m h b) s = .next (finishOp (rawTransfer h m b (startOp s))) := by
  cases m <;> simp [rawOp, exec, execBusCmd, execBusData, hcfg]

/-- Settles O31: selection, byte and deselection in sequence, from the operation start to the result OK. -/
theorem rawTransferWithoutFault : Obligations.RawTransferWithoutFault := by
  intro s h m b hcfg hdraw
  refine (exec_rawOp hcfg m h b).trans ?_
  rw [rawTransfer_ok (s := startOp s) hdraw]
  simp [finishOp, takeDraw_eq, startOp, ErrInfo.zero, selectEvents, emitEvents, busResult, Config.tEhNs, Config.tElNs]

/-- Settles O32: as O31, with the failing byte and its record; the operation start has cleared FIRST_ERR (R252). -/
theorem rawTransferWithFault : Obligations.RawTransferWithFault := by
  intro s h m b c n hcfg hdraw
  refine (exec_rawOp hcfg m h b).trans ?_
  rw [rawTransfer_fail (s := startOp s) rfl hdraw]
  simp [finishOp, takeDraw_eq, startOp, selectEvents, byteEvents, emitEvents, recoveryEvents, busResult, Config.tEhNs,
    Config.tElNs]

end Sys2Proof.Machine

/-! PROOFS. A line fault ends a transfer (R230, R237; O33): the bytes before it draw one answer each and record nothing, the
failing byte is recorded, the rest is left out. -/

namespace Sys2Proof.Machine

open Sys2Proof

theorem takeDraw_lineDraws {s : State} {d : LineDraw} {ds : List LineDraw} (h : s.lineDraws = d :: ds) :
    (takeDraw s).lineDraws = ds := by
  rw [takeDraw_eq]
  exact congrArg List.tail h

theorem nextDraw_eq {s : State} {d : LineDraw} {ds : List LineDraw} (h : s.lineDraws = d :: ds) : nextDraw s = d := by
  simp only [nextDraw, h]

/-- The error record is that of `s`, and the answers to come are `ds`. -/
def RecordKept (s t : State) (ds : List LineDraw) : Prop :=
  t.firstErr = s.firstErr ∧ t.errInfo = s.errInfo ∧ t.lineDraws = ds

/-- With the answer OK a byte uses up the answer and records nothing. -/
theorem emitByte_recordKept {s : State} {ds : List LineDraw} (h : s.lineDraws = .ok :: ds) (c : ByteCtx) (b : Byte) :
    RecordKept s (emitByte c b s) ds := by
  rw [emitByte_ok (nextDraw_eq h)]
  exact ⟨takeDraw_firstErr s, takeDraw_errInfo s, takeDraw_lineDraws h⟩

/-- Byte `c` failed: the answers to come are `ds`, and the byte is recorded unless an error was before (R296). -/
def FaultRecorded (s t : State) (c : ByteCtx) (ds : List LineDraw) : Prop :=
  t.lineDraws = ds ∧ (s.firstErr = false → t.errInfo = errInfoOf c)

theorem emitByte_faultRecorded {s : State} {v : Fin 255} {n : Fin 7} {ds : List LineDraw}
    (h : s.lineDraws = .fail v n :: ds) (c : ByteCtx) (b : Byte) : FaultRecorded s (emitByte c b s) c ds := by
  obtain hfirst | hfirst := Bool.eq_false_or_eq_true s.firstErr
  · rw [emitByte_fail_later hfirst (nextDraw_eq h)]
    exact ⟨takeDraw_lineDraws h, fun hnone => absurd hfirst (Bool.eq_false_iff.1 hnone)⟩
  · rw [emitByte_fail_first hfirst (nextDraw_eq h)]
    exact ⟨takeDraw_lineDraws h, fun _ => rfl⟩

/-- A byte with the answer OK is followed by the rest of its phase. -/
theorem sendBytes_cons_ok {s : State} {ds : List LineDraw} (hs : s.lineDraws = .ok :: ds) (h : Panel) (page n k : Nat)
    (b : Byte) (bs : List Byte) : sendBytes h page n k (b :: bs) s =
      sendBytes h page n (k + 1) bs (emitByte (transferCtx h page n k) b { s with seq := .emit page h k }) := by
  have hdraw : nextDraw { s with seq := .emit page h k } = .ok := nextDraw_eq hs
  simp only [sendBytes, hdraw, failCode]

theorem sendBytes_ok {s : State} {ds : List LineDraw} (h : Panel) (page n k : Nat) (bs : List Byte)
    (hs : s.lineDraws = List.replicate bs.length .ok ++ ds) :
    ∃ t, sendBytes h page n k bs s = (true, t) ∧ RecordKept s t ds := by
  induction bs generalizing k s with
  | nil => exact ⟨s, rfl, rfl, rfl, hs⟩
  | cons b bs ih =>
    obtain ⟨hfirst, hinfo, hrest⟩ :=
      emitByte_recordKept (s := { s with seq := .emit page h k }) hs (transferCtx h page n k) b
    obtain ⟨t, hsend, hfirst', hinfo', hdraws⟩ := ih (k + 1) hrest
    exact ⟨t, (sendBytes_cons_ok hs h page n k b bs).trans hsend, hfirst'.trans hfirst, hinfo'.trans hinfo, hdraws⟩

/-- The fault at byte `j` of a phase that begins at offset `k` is recorded at offset `k + j` (R230, R237). -/
theorem sendBytes_fault {s : State} {v : Fin 255} {m : Fin 7} {ds : List LineDraw} {j : Nat} (h : Panel)
    (page n k : Nat) {bs : List Byte} (hj : j < bs.length)
    (hs : s.lineDraws = List.replicate j .ok ++ .fail v m :: ds) :
    ∃ t, sendBytes h page n k bs s = (false, t) ∧ FaultRecorded s t (transferCtx h page n (k + j)) ds := by
  induction bs generalizing j k s with
  | nil => exact absurd hj (Nat.not_lt_zero j)
  | cons b bs ih =>
    cases j with
    | zero =>
      have hdraw : nextDraw { s with seq := .emit page h k } = .fail v m := nextDraw_eq hs
      refine ⟨_, ?_, emitByte_faultRecorded (s := { s with seq := .emit page h k }) hs (transferCtx h page n k) b⟩
      simp only [sendBytes, hdraw, failCode]
    | succ j =>
      obtain ⟨hfirst, -, hrest⟩ :=
        emitByte_recordKept (s := { s with seq := .emit page h k }) hs (transferCtx h page n k) b
      obtain ⟨t, hsend, hdraws, hrecord⟩ := ih (k + 1) (Nat.lt_of_succ_lt_succ hj) hrest
      refine ⟨t, (sendBytes_cons_ok hs h page n k b bs).trans hsend, hdraws, fun hnone => ?_⟩
      rw [hrecord (hfirst.trans hnone), Nat.add_assoc, Nat.add_comm 1 j]

theorem transfer_of_commands_fault {r : PageRecord} {s t : State} (h : sendCommands r s = (false, t)) :
    transfer r s = (false, t) := by
  simp only [transfer, h]

theorem transfer_of_commands_ok {r : PageRecord} {s t : State} (h : sendCommands r s = (true, t)) :
    transfer r s = sendData r t := by
  simp only [transfer, h]

theorem transfer_fault {s : State} {r : PageRecord} {k : Nat} {c : Fin 255} {n : Fin 7} {ds : List LineDraw}
    (hk : k < 3 + r.bytes.length) (hs : s.lineDraws = List.replicate k .ok ++ .fail c n :: ds) :
    ∃ t, transfer r s = (false, t) ∧ FaultRecorded s t (transferCtx r.panel r.page r.bytes.length k) ds := by
  obtain hcmd | ⟨j, rfl⟩ : k < 3 ∨ ∃ j, k = 3 + j := (Nat.lt_or_ge k 3).imp_right Nat.exists_eq_add_of_le
  · obtain ⟨t, hsend, hrecord⟩ := sendBytes_fault (s := setMode .cmd (chipSelect r.panel s)) r.panel r.page
      r.bytes.length 0 (bs := commandBytes s.cfg r) hcmd hs
    rw [Nat.zero_add] at hrecord
    exact ⟨t, transfer_of_commands_fault hsend, hrecord⟩
  · rw [List.replicate_add, List.append_assoc] at hs
    obtain ⟨t, hcmds, hfirst, -, hrest⟩ := sendBytes_ok (s := setMode .cmd (chipSelect r.panel s)) r.panel r.page
      r.bytes.length 0 (commandBytes s.cfg r) hs
    obtain ⟨u, hdata, hdraws, hrecord⟩ := sendBytes_fault (s := setMode .data t) r.panel r.page r.bytes.length 3
      (Nat.lt_of_add_lt_add_left hk) hrest
    exact ⟨u, (transfer_of_commands_ok hcmds).trans hdata, hdraws, fun hnone => hrecord (hfirst.trans hnone)⟩

/-- Settles O33: the fault falls in the command phase or in the data phase of the transfer. -/
theorem faultEndsTransfer : Obligations.FaultEndsTransfer := by
  intro s r k c n rest hk hs
  obtain ⟨t, htransfer, hdraws, hrecord⟩ := transfer_fault hk hs
  rw [htransfer]
  exact ⟨rfl, hdraws, hrecord⟩

end Sys2Proof.Machine

/-! PROOFS. The timing of a hold (O59) and the pins (O60). -/

namespace Sys2Proof.Machine

open Sys2Proof

/-- Settles O59: rounding the quotient up is the ceiling (R225). -/
theorem waitCyclesIsCeiling : Obligations.WaitCyclesIsCeiling := by
  intro p t
  rw [waitCycles]
  exact ⟨by omega, fun n hn => by omega⟩

theorem levelPin_iff (active : Bool) (l : Level) : levelPin active l = true ↔ (l = .asserted ↔ active = true) := by
  cases l <;> simp [levelPin]

theorem pinsOf_mode_iff (p : Params) (l : Lines) :
    (pinsOf p l).mode = true ↔ (l.mode = .cmd ↔ p.modeCmdLevel = true) := by
  cases hm : l.mode <;> simp [pinsOf, hm]

theorem pinsOf_rw_iff (p : Params) (l : Lines) :
    (pinsOf p l).rw = true ↔ (l.rw = .write ↔ p.rwWriteLevel = true) := by
  cases hr : l.rw <;> simp [pinsOf, hr]

/-- Settles O60: the chip-selects and E are pins of a line with an asserted level, mode and RW name their two levels. -/
theorem pinsFollowPolarity : Obligations.PinsFollowPolarity := fun p l =>
  ⟨levelPin_iff p.csActiveHigh l.cs0, levelPin_iff p.csActiveHigh l.cs1, levelPin_iff p.eActiveHigh l.e,
    pinsOf_mode_iff p l, pinsOf_rw_iff p l, rfl⟩

end Sys2Proof.Machine

/-! PROOFS. The register writes (R262, R264; O15, O16), the reads of CTRL and ERR_INFO (R263, R268; O9, O12), SET_WINDOW inside
the geometry (R253; O17) and the configuration gate (R251; O19). -/

namespace Sys2Proof.Machine

open Sys2Proof

/-! ### The words read and written -/

theorem ctrlWord_bits (s : State) :
    (ctrlWord s).getLsbD 0 = s.dither ∧ (ctrlWord s).getLsbD 1 = s.neg ∧
    ∀ i, 2 ≤ i → (ctrlWord s).getLsbD i = false := by
  simp only [ctrlWord, bit, BitVec.zeroExtend, BitVec.getLsbD_setWidth, BitVec.getLsbD_append]
  refine ⟨by simp, by simp, fun i hi => ?_⟩
  have hlow : ¬ i < 1 := by omega
  have hhigh : i - 1 ≠ 0 := by omega
  simp [hlow, hhigh]

theorem errInfoWord_fields (s : State) :
    (errInfoWord s).extractLsb' 0 8 = s.errInfo.offset ∧ (errInfoWord s).extractLsb' 8 8 = s.errInfo.count ∧
    (errInfoWord s).extractLsb' 16 5 = s.errInfo.page ∧ (errInfoWord s).extractLsb' 22 10 = 0 := by
  simp only [errInfoWord, BitVec.extractLsb'_append_eq_ite]
  simp

theorem errInfoWord_panel (s : State) : (errInfoWord s).getLsbD 21 = decide (s.errInfo.panel = .right) := by
  simp only [errInfoWord, BitVec.getLsbD_append]
  cases s.errInfo.panel <;> simp [bit, panelBit]

/-- Above bit 0, FB_BASE is the word written (R107). -/
theorem fbBaseOf_high_bits (d : Word) {i : Nat} (hi : 1 ≤ i) : (fbBaseOf d).getLsbD i = d.getLsbD i := by
  have hlow : ¬ i < 1 := by omega
  have hindex : 1 + (i - 1) = i := by omega
  rw [fbBaseOf, BitVec.getLsbD_append, if_neg hlow, BitVec.getLsbD_extractLsb', hindex]
  by_cases htop : i < 32
  · have hfield : i - 1 < 31 := by omega
    simp [hfield]
  · simp [BitVec.getLsbD_of_ge d i (by omega)]

/-- Settles O9, by the bits of the word read. -/
theorem readCtrlReturnsBits : Obligations.ReadCtrlReturnsBits :=
  ⟨fun s => ⟨ctrlWord s, rfl, ctrlWord_bits s⟩, rfl⟩

/-- Settles O12, by the fields of the word read. -/
theorem readErrInfoReturnsFields : Obligations.ReadErrInfoReturnsFields := by
  refine ⟨fun s => ⟨errInfoWord s, rfl, ?_⟩, fun _ => rfl⟩
  obtain ⟨hoffset, hcount, hpage, hzero⟩ := errInfoWord_fields s
  exact ⟨hoffset, hcount, hpage, errInfoWord_panel s, hzero⟩

/-- Settles O15: the write decodes to WR_CTRL of its two bits, which the idle block runs. -/
theorem writeCtrlSetsBits : Obligations.WriteCtrlSetsBits :=
  ⟨fun _ _ _ => rfl, fun s _ rest hidle hinputs => stepRunsDecodedAccess s _ rest _ hidle hinputs rfl⟩

/-- Settles O16, by the bits of the word stored. -/
theorem writeFbBaseClearsBitZero : Obligations.WriteFbBaseClearsBitZero :=
  fun _ data => ⟨fbBaseOf data, rfl, fbBaseOf_bit0 data, fun _ hi => fbBaseOf_high_bits data hi⟩

/-! ### SET_WINDOW and the configuration gate -/

/-- A pixel row becomes its page, which fits the field (R253). -/
theorem windowOf_pages (xs ys xe ye : Byte) :
    (windowOf xs ys xe ye).ysPage.toNat = ys.toNat / 8 ∧ (windowOf xs ys xe ye).yePage.toNat = ye.toNat / 8 := by
  simp only [windowOf, BitVec.toNat_ofNat]
  omega

theorem exec_setWindow_of_ok {s : State} {xs ys xe ye : Byte} (hcfg : s.cfgErr = false)
    (hok : windowOk s.cfg (windowOf xs ys xe ye) = true) : exec (.setWindow xs ys xe ye) s =
      .next { startOp s with win := windowOf xs ys xe ye, winValid := true, lastCode := .ok } := by
  simp [exec, execSetWindow, storeWindow, hcfg, hok]

/-- Settles O17: the four bounds are the window invariant of the window in page form. -/
theorem setWindowStoresWindow : Obligations.SetWindowStoresWindow := by
  intro s xs ys xe ye hcfg hxs hxe hys hye
  obtain ⟨hfirst, hlast⟩ := windowOf_pages xs ys xe ye
  have hok : windowOk s.cfg (windowOf xs ys xe ye) = true := by
    rw [windowOk_iff, hfirst, hlast]
    exact ⟨hxs, hxe, hys, hye⟩
  exact ⟨windowOf xs ys xe ye, rfl, rfl, hfirst, hlast, exec_setWindow_of_ok hcfg hok⟩

/-- SET_WINDOW, BUS_CMD and BUS_DATA are gated alike (R251). -/
theorem gate_of_cfgErr {s : State} (hcfg : s.cfgErr = true) (f : State → State) :
    (if (startOp s).cfgErr then failWith .config (startOp s) else f (startOp s)) = failWith .config (startOp s) :=
  if_pos hcfg

/-- Settles O19: the gate comes first in each of the four operations. -/
theorem configErrorGatesOperations : Obligations.ConfigErrorGatesOperations := by
  rintro s i hcfg (⟨xs, ys, xe, ye, rfl⟩ | rfl | ⟨h, b, rfl⟩ | ⟨h, b, rfl⟩)
  · exact congrArg Host.Outcome.next (gate_of_cfgErr hcfg (storeWindow (windowOf xs ys xe ye)))
  · exact exec_flush_of_cfgErr hcfg
  · exact congrArg Host.Outcome.next (gate_of_cfgErr hcfg fun u => finishOp (rawTransfer h .cmd b u))
  · exact congrArg Host.Outcome.next (gate_of_cfgErr hcfg fun u => finishOp (rawTransfer h .data b u))

end Sys2Proof.Machine

/-! PROOFS. What a bus operation shows whatever the line layer answers, said once (`Ran`): its chip-select events and the
first FAULT, whose code is the error record (R237, R238, R296). Hence the result of FLUSH, BUS_CMD and BUS_DATA (O23). -/

namespace Sys2Proof.Machine

open Sys2Proof

/-! ### The first fault -/

/-- The code of a FAULT event (R210). -/
def faultCode : BusEvent → Option Byte
  | .fault c => some c
  | _ => none

/-- A byte shows a FAULT exactly when its answer fails, with the code of the answer (R222). -/
theorem findSome?_byteEvents (p : Params) (b : Byte) (d : LineDraw) :
    (byteEvents p b d).findSome? faultCode = failCode d := by
  have hemit : ∀ e ∈ emitEvents p b, faultCode e = none := by simp [emitEvents, faultCode]
  cases d with
  | ok => exact List.findSome?_eq_none_iff.2 hemit
  | fail c n =>
    have hshown : ((emitEvents p b).take n.val).findSome? faultCode = none :=
      List.findSome?_eq_none_iff.2 fun e he => hemit e (List.mem_of_mem_take he)
    rw [byteEvents, List.findSome?_append, hshown]
    rfl

/-- The error record holds `o`, the code of the first fault of the operation so far (R40, R43). -/
def FirstFault (s : State) (o : Option Byte) : Prop := s.firstErr = o.isSome ∧ s.lineCode = o.getD 0

theorem startOp_firstFault (s : State) : FirstFault (startOp s) none := ⟨rfl, rfl⟩

/-- A fault is recorded unless one stands recorded (R296). -/
theorem FirstFault.raiseBusWrite {s : State} {o : Option Byte} (h : FirstFault s o) (c : ByteCtx) (v : Byte) :
    FirstFault (raiseBusWrite c v s) (o.or (some v)) := by
  cases o with
  | none => rw [raiseBusWrite_first h.1]; exact ⟨rfl, rfl⟩
  | some w => rw [raiseBusWrite_later h.1]; exact h

theorem FirstFault.emit {s : State} {o : Option Byte} (h : FirstFault s o) (b : Byte) : FirstFault (emit b s) o := by
  rw [emit_eq]
  exact ⟨(takeDraw_firstErr s).trans h.1, (takeDraw_lineCode s).trans h.2⟩

theorem FirstFault.emitByte {s : State} {o : Option Byte} (h : FirstFault s o) (c : ByteCtx) (b : Byte) :
    FirstFault (emitByte c b s) (o.or (failCode (nextDraw s))) := by
  unfold Machine.emitByte
  split
  next hdraw => rw [hdraw, Option.or_none]; exact h.emit b
  next v hdraw => rw [hdraw]; exact (h.emit b).raiseBusWrite c v

/-! ### What an operation shows -/

/-- A chip-select event (R210). -/
def isSelect : BusEvent → Bool
  | .cs _ _ => true
  | _ => false

/-- From `s` to `t` some events were driven, the chip-select events among them `css`; RW kept its level, and the first fault
is recorded. -/
def Ran (s t : State) (css : List BusEvent) : Prop :=
  ∃ es, Drove s t es ∧ es.filter isSelect = css ∧ t.lines.rw = s.lines.rw ∧
    ∀ o, FirstFault s o → FirstFault t (o.or (es.findSome? faultCode))

theorem Ran.trans {s t u : State} {css dss : List BusEvent} (h : Ran s t css) (k : Ran t u dss) :
    Ran s u (css ++ dss) := by
  obtain ⟨es, hdrove, rfl, hrw, hfault⟩ := h
  obtain ⟨fs, kdrove, rfl, krw, kfault⟩ := k
  refine ⟨es ++ fs, hdrove.trans kdrove, List.filter_append .., krw.trans hrw, fun o ho => ?_⟩
  rw [List.findSome?_append, ← Option.or_assoc]
  exact kfault _ (hfault o ho)

/-- Neither the bus nor the error record changed. -/
theorem Ran.of_same {s t : State} (htrace : t.trace = s.trace) (hlines : t.lines = s.lines)
    (hfirst : t.firstErr = s.firstErr) (hcode : t.lineCode = s.lineCode) : Ran s t [] :=
  ⟨[], Drove.of_same htrace hlines, rfl, by rw [hlines], fun o ho => by
    rw [List.findSome?_nil, Option.or_none]
    exact ⟨hfirst.trans ho.1, hcode.trans ho.2⟩⟩

theorem Ran.refl (s : State) : Ran s s [] := .of_same rfl rfl rfl rfl

/-- An event that is neither a FAULT nor on RW. -/
theorem drive_ran {e : BusEvent} (hfault : faultCode e = none) (hrw : ∀ v, e ≠ .rw v) (s : State) :
    Ran s (drive e s) ([e].filter isSelect) :=
  ⟨[e], drive_drove e s, rfl, linesAfter_rw s.lines [e] (by simpa [eq_comm] using hrw), fun o ho => by
    rw [List.findSome?_singleton, hfault, Option.or_none]
    exact ho⟩

/-- CHIP_SELECT (R216). -/
def panelSelects (h : Panel) : List BusEvent := [.cs (otherPanel h) .deasserted, .cs h .asserted]

/-- DESELECT_ALL (R217). -/
def deselects : List BusEvent := [.cs .left .deasserted, .cs .right .deasserted]

theorem chipSelect_ran (h : Panel) (s : State) : Ran s (chipSelect h s) (panelSelects h) :=
  (drive_ran rfl (by simp) s).trans (drive_ran rfl (by simp) _)

theorem deselectAll_ran (s : State) : Ran s (deselectAll s) deselects :=
  (drive_ran rfl (by simp) s).trans (drive_ran rfl (by simp) _)

theorem setMode_ran (m : BusMode) (s : State) : Ran s (setMode m s) [] := drive_ran rfl (by simp) s

theorem emitByte_ran (c : ByteCtx) (b : Byte) (s : State) : Ran s (emitByte c b s) [] := by
  have hdrove := emitByte_drove c b s
  refine ⟨_, hdrove, List.filter_eq_nil_iff.2 fun e he => ?_, ?_, fun o ho => ?_⟩
  · cases e with
    | cs h v => exact absurd he (cs_not_mem_byteEvents _ _ _ h v)
    | mode | data | e | rw | wait | fault => exact Bool.false_ne_true
  · rw [hdrove.2, linesAfter_rw _ _ (rw_not_mem_byteEvents _ _ _)]
  · rw [findSome?_byteEvents]
    exact ho.emitByte c b

/-- A phase of a transfer selects no panel, wherever it ends (R230, R237). -/
theorem sendBytes_ran (h : Panel) (page n k : Nat) (bs : List Byte) (s : State) :
    Ran s (sendBytes h page n k bs s).2 [] := by
  induction bs generalizing k s with
  | nil => exact .refl s
  | cons b bs ih =>
    have hbyte : Ran s (emitByte (transferCtx h page n k) b { s with seq := .emit page h k }) [] :=
      emitByte_ran _ b { s with seq := .emit page h k }
    unfold sendBytes
    dsimp only
    split
    · exact hbyte.trans (ih _ _)
    · exact hbyte

theorem sendCommands_ran (r : PageRecord) (s : State) : Ran s (sendCommands r s).2 (panelSelects r.panel) :=
  ((chipSelect_ran r.panel s).trans (setMode_ran .cmd _)).trans (sendBytes_ran _ _ _ _ _ _)

theorem sendData_ran (r : PageRecord) (s : State) : Ran s (sendData r s).2 [] :=
  (setMode_ran .data s).trans (sendBytes_ran _ _ _ _ _ _)

theorem transfer_ran (r : PageRecord) (s : State) : Ran s (transfer r s).2 (panelSelects r.panel) := by
  have hcmd := sendCommands_ran r s
  unfold transfer
  split
  next s1 heq => rw [heq] at hcmd; exact hcmd.trans (sendData_ran r s1)
  next heq => rw [heq] at hcmd; exact hcmd

theorem transfers_ran (rs : List PageRecord) (s : State) :
    Ran s (rs.foldl (fun s r => (transfer r s).2) s) (rs.flatMap fun r => panelSelects r.panel) := by
  induction rs generalizing s with
  | nil => exact .refl s
  | cons r rs ih => exact (transfer_ran r s).trans (ih _)

/-- The chip-select events of a page: each panel the window touches, left first, then none (R195, R237, R238). -/
def pageSelects (p : Params) (w : Window) : List BusEvent :=
  ([Panel.left, Panel.right].filter fun h => touches p w h).flatMap panelSelects ++ deselects

theorem emitPage_ran (s : State) (p : Nat) : Ran s (emitPage s p) (pageSelects s.cfg s.win) := by
  have htransfers := transfers_ran (packRow s p) s
  rw [packRow, List.flatMap_map] at htransfers
  exact htransfers.trans (deselectAll_ran _)

theorem emitPages_ran (ps : List Nat) (s : State) :
    Ran s (ps.foldl emitPage s) (ps.flatMap fun _ => pageSelects s.cfg s.win) := by
  induction ps generalizing s with
  | nil => exact .refl s
  | cons p ps ih =>
    have hrest := ih (emitPage s p)
    obtain ⟨hcfg, hwin⟩ := (emitPage_onlyBus s p).cfg_win
    rw [hcfg, hwin] at hrest
    exact (emitPage_ran s p).trans hrest

/-- The state in which the emit phase of a FLUSH begins (R255, R256). -/
def packed (s : State) : State := quantizePhase s.dither (convertPhase s)

theorem flushRun_eq (s : State) : flushRun s = finishFlush (emitPhase (packed s)) := rfl

@[simp] theorem packed_cfg (s : State) : (packed s).cfg = s.cfg := by simp [packed]
@[simp] theorem packed_win (s : State) : (packed s).win = s.win := by simp [packed]

theorem packed_onlyWork (s : State) : ∃ q I bp l0 l1, packed s =
    { s with seq := q, plane := I, bp := bp, lb0 := l0, lb1 := l1, flushCount := s.flushCount + 1 } :=
  phases_onlyWork s.dither s

theorem packed_ran (s : State) : Ran s (packed s) [] := by
  obtain ⟨q, I, bp, l0, l1, hpacked⟩ := packed_onlyWork s
  rw [hpacked]
  exact .of_same rfl rfl rfl rfl

theorem finishFlush_ran (s : State) : Ran s (finishFlush s) [] := .of_same rfl rfl rfl rfl

theorem flushRun_ran (s : State) :
    Ran s (flushRun s) ((windowPages s.win).flatMap fun _ => pageSelects s.cfg s.win) := by
  have hemit : Ran (packed s) (emitPhase (packed s)) _ := emitPages_ran (windowPages (packed s).win) (packed s)
  rw [packed_cfg, packed_win] at hemit
  have hrun := ((packed_ran s).trans hemit).trans (finishFlush_ran _)
  rwa [List.nil_append, List.append_nil] at hrun

theorem rawTransfer_ran (h : Panel) (m : BusMode) (b : Byte) (s : State) :
    Ran s (rawTransfer h m b s) (panelSelects h ++ deselects) := by
  have hselect : Ran s (setMode m (chipSelect h { s with seq := .raw h m b })) (panelSelects h) :=
    (chipSelect_ran h { s with seq := .raw h m b }).trans (setMode_ran m _)
  exact (hselect.trans (emitByte_ran (rawCtx h) b _)).trans (deselectAll_ran _)

/-! ### The result of an operation -/

/-- The code an operation reports and its LINE_CODE are those of the first FAULT it shows (R258, R294). -/
theorem Ran.result {s t : State} {css : List BusEvent} (h : Ran (startOp s) t css)
    (hcode : t.lastCode = busResult t.firstErr) :
    ∃ es, t.trace = s.trace ++ es ∧ t.lastCode = busResult (es.any fun e => (faultCode e).isSome) ∧
      t.lineCode = (es.findSome? faultCode).getD 0 := by
  obtain ⟨es, ⟨htrace, -⟩, -, -, hfault⟩ := h
  obtain ⟨hfirst, hline⟩ := hfault none (startOp_firstFault s)
  rw [Option.none_or] at hfirst hline
  rw [hfirst, List.isSome_findSome?] at hcode
  exact ⟨es, htrace, hcode, hline⟩

theorem finishFlush_lastCode (s : State) : (finishFlush s).lastCode = busResult (finishFlush s).firstErr := rfl

theorem flushRun_lastCode (s : State) : (flushRun s).lastCode = busResult (flushRun s).firstErr := by
  rw [flushRun_eq, finishFlush_lastCode]

/-- A FLUSH that has a next state ran its three phases, once past the gates (R254, R303). -/
theorem flush_next_eq {s t : State} (hcfg : s.cfgErr = false) (hwin : s.winValid = true)
    (h : exec .flush s = .next t) : t = flushRun (startOp s) := by
  cases hstuck : stuckAddr (startOp s) with
  | some a => rw [exec_flush_of_stuck hcfg hwin hstuck] at h; cases h
  | none => rw [exec_flush_of_admitted hcfg hwin hstuck] at h; cases h; rfl

theorem rawOp_next_eq {s t : State} {m : BusMode} {p : Panel} {b : Byte} (hcfg : s.cfgErr = false)
    (h : exec (rawOp m p b) s = .next t) : t = finishOp (rawTransfer p m b (startOp s)) := by
  rw [exec_rawOp hcfg] at h
  cases h
  rfl

/-- The raw transfer's end changes no line and no record (R260). -/
theorem finishRaw_ran (h : Panel) (m : BusMode) (b : Byte) (s : State) :
    Ran s (finishOp (rawTransfer h m b s)) (panelSelects h ++ deselects) := rawTransfer_ran h m b s

theorem faultCode_isSome (e : BusEvent) : (faultCode e).isSome = match e with
    | .fault _ => true
    | _ => false := by
  cases e <;> rfl

/-- Settles O23: each of the three operations runs from its start to a result taken from FIRST_ERR. -/
theorem busResultIsFirstFault : Obligations.BusResultIsFirstFault := by
  intro s t i hcfg hwin hop hexec
  have hresult : ∃ css, Ran (startOp s) t css ∧ t.lastCode = busResult t.firstErr := by
    rcases hop with rfl | ⟨h, b, rfl⟩ | ⟨h, b, rfl⟩
    · rw [flush_next_eq hcfg (hwin rfl) hexec]
      exact ⟨_, flushRun_ran (startOp s), flushRun_lastCode (startOp s)⟩
    · rw [rawOp_next_eq (m := .cmd) hcfg hexec]
      exact ⟨_, finishRaw_ran h .cmd b (startOp s), rfl⟩
    · rw [rawOp_next_eq (m := .data) hcfg hexec]
      exact ⟨_, finishRaw_ran h .data b (startOp s), rfl⟩
  obtain ⟨css, hran, hcode⟩ := hresult
  obtain ⟨es, htrace, hlast, hline⟩ := hran.result hcode
  simp only [faultCode_isSome] at hlast
  exact ⟨es, htrace, hlast, hline⟩

end Sys2Proof.Machine

/-! PROOFS. A FLUSH completes whatever the line layer answers (O22): the admitted plane leaves no stuck read, the window has a
page and a panel to send, and a byte sent leaves no wait pending and the latch line deasserted. -/

namespace Sys2Proof.Machine

open Sys2Proof

/-! ### The branch taken -/

theorem stuckAddr_of_admitted {s : State} (h : PlaneAdmitted s) : stuckAddr s = none := by
  refine List.findSome?_eq_none_iff.2 fun q hq => ?_
  obtain ⟨hx, hy⟩ := mem_raster.1 hq
  obtain ⟨hlow, hhigh⟩ := h q.1 q.2 hx hy
  exact stuckPixel_none hlow hhigh

theorem exec_flush_of_planeAdmitted {s : State} (hcfg : s.cfgErr = false) (hwin : s.winValid = true)
    (h : PlaneAdmitted s) : exec .flush s = .next (flushRun (startOp s)) :=
  exec_flush_of_admitted hcfg hwin (stuckAddr_of_admitted (s := startOp s) h)

/-! ### After a byte -/

/-- No wait is pending and the latch line is deasserted (R54, R220, R223). -/
def Quiet (s : State) : Prop := s.dly = 0 ∧ s.lines.e = .deasserted

theorem emitByte_quiet (c : ByteCtx) (b : Byte) (s : State) : Quiet (emitByte c b s) := by
  have hlatch : (emitByte c b s).lines.e = .deasserted := by
    rw [(emitByte_drove c b s).2, linesAfter_byteEvents_e]
  refine ⟨?_, hlatch⟩
  unfold emitByte
  split
  · rw [emit_eq]
  · rw [raiseBusWrite_dly, emit_eq]

/-- A phase that sends a byte ends with one, wherever a fault ends it. -/
theorem sendBytes_cons_quiet (h : Panel) (page n k : Nat) (b : Byte) (bs : List Byte) (s : State) :
    Quiet (sendBytes h page n k (b :: bs) s).2 := by
  induction bs generalizing b k s with
  | nil =>
    unfold sendBytes
    dsimp only
    split <;> exact emitByte_quiet _ b _
  | cons b' bs ih =>
    unfold sendBytes
    dsimp only
    split
    · exact ih _ b' _
    · exact emitByte_quiet _ b _

theorem Quiet.sendBytes {s : State} (hs : Quiet s) (h : Panel) (page n k : Nat) (bs : List Byte) :
    Quiet (sendBytes h page n k bs s).2 := by
  cases bs with
  | nil => exact hs
  | cons b bs => exact sendBytes_cons_quiet h page n k b bs s

theorem sendCommands_quiet (r : PageRecord) (s : State) : Quiet (sendCommands r s).2 :=
  sendBytes_cons_quiet _ _ _ _ _ _ _

theorem transfer_quiet (r : PageRecord) (s : State) : Quiet (transfer r s).2 := by
  have hcmd := sendCommands_quiet r s
  unfold transfer
  split
  next s1 heq => rw [heq] at hcmd; exact Quiet.sendBytes (s := setMode .data s1) hcmd _ _ _ _ _
  next heq => rw [heq] at hcmd; exact hcmd

theorem Quiet.transfers {s : State} (hs : Quiet s) (rs : List PageRecord) :
    Quiet (rs.foldl (fun s r => (transfer r s).2) s) :=
  List.foldlRecOn (motive := Quiet) rs _ hs fun t _ r _ => transfer_quiet r t

theorem Quiet.emitPage {s : State} (hs : Quiet s) (p : Nat) : Quiet (emitPage s p) := hs.transfers (packRow s p)

theorem emitPage_quiet {s : State} {p : Nat} (h : packRow s p ≠ []) : Quiet (emitPage s p) := by
  obtain ⟨r, rs, hrow⟩ := List.exists_cons_of_ne_nil h
  have htransfers : Quiet ((packRow s p).foldl (fun s r => (transfer r s).2) s) := by
    rw [hrow]
    exact (transfer_quiet r s).transfers rs
  exact htransfers

/-! ### The pages of a valid window -/

/-- A window in order touches a panel (R191). -/
theorem packRow_ne_nil {s : State} (hxs : s.win.xs.toNat ≤ s.win.xe.toNat) (p : Nat) : packRow s p ≠ [] := by
  obtain ⟨h, htouch⟩ : ∃ h, touches s.cfg s.win h = true := by
    obtain hleft | hright : s.win.xs.toNat < s.cfg.width / 2 ∨ s.cfg.width / 2 ≤ s.win.xe.toNat := by omega
    · exact ⟨.left, (touches_left_iff _ _).2 hleft⟩
    · exact ⟨.right, (touches_right_iff _ _).2 hright⟩
  have hpanel : h ∈ [Panel.left, Panel.right] := by cases h <;> simp
  exact List.ne_nil_of_mem (List.mem_map_of_mem (List.mem_filter.2 ⟨hpanel, htouch⟩))

/-- The first page sends a byte, and every page ends with both panels deselected (R238). -/
theorem emitPhase_atRest {s : State} (hwin : windowOk s.cfg s.win = true) :
    Quiet (emitPhase s) ∧ Deselected (emitPhase s) := by
  obtain ⟨hxs, -, hpages, -⟩ := (windowOk_iff _ _).1 hwin
  obtain ⟨p, ps, hcons⟩ : ∃ p ps, windowPages s.win = p :: ps :=
    List.exists_cons_of_ne_nil (List.ne_nil_of_mem (mem_windowPages.2 ⟨le_rfl, hpages⟩))
  rw [emitPhase, hcons]
  exact List.foldlRecOn (motive := fun t => Quiet t ∧ Deselected t) ps _
    ⟨emitPage_quiet (packRow_ne_nil hxs p), deselectAll_deselected _⟩
    fun _ ht p _ => ⟨ht.1.emitPage p, deselectAll_deselected _⟩

theorem finishFlush_atRest {s : State} (h : Quiet s ∧ Deselected s) :
    Quiet (finishFlush s) ∧ Deselected (finishFlush s) :=
  ⟨h.1, h.2.cs0, h.2.cs1⟩

theorem flushRun_atRest {s : State} (hwin : windowOk s.cfg s.win = true) :
    Quiet (flushRun s) ∧ Deselected (flushRun s) := by
  rw [flushRun_eq]
  exact finishFlush_atRest (emitPhase_atRest (by rwa [packed_cfg, packed_win]))

/-! ### The obligation -/

theorem pageSelects_eq (p : Params) (w : Window) : pageSelects p w =
    (if w.xs.toNat < p.width / 2 then [.cs .right .deasserted, .cs .left .asserted] else []) ++
    (if p.width / 2 ≤ w.xe.toNat then [.cs .left .deasserted, .cs .right .asserted] else []) ++
    [.cs .left .deasserted, .cs .right .deasserted] := by
  simp only [pageSelects, List.filter_cons, List.filter_nil, touches_left_iff, touches_right_iff]
  split_ifs <;> rfl

theorem finishFlush_seq (s : State) : (finishFlush s).seq = .idle := rfl

theorem flushRun_seq (s : State) : (flushRun s).seq = .idle := by rw [flushRun_eq, finishFlush_seq]

theorem OnlyFlush.readLog_eq {s t : State} (h : OnlyFlush s t) : t.readLog = s.readLog := by
  obtain ⟨_, _, _, _, _, _, _, _, _, _, _, _, _, _, _, _, rfl⟩ := h
  rfl

/-- Settles O22: what the run shows does not depend on the answers, and its end is at rest. -/
theorem flushCompletes : Obligations.FlushCompletes := by
  intro s hcfg hvalid hwin hadmitted
  have hexec := exec_flush_of_planeAdmitted hcfg hvalid hadmitted
  obtain ⟨es, ⟨htrace, -⟩, hselects, hrw, -⟩ := flushRun_ran (startOp s)
  obtain ⟨⟨hdly, hlatch⟩, hdes⟩ := flushRun_atRest (s := startOp s) hwin
  obtain ⟨⟨hwin', hvalid'⟩, ⟨hdither, hneg⟩, hbase⟩ := (execFlush_onlyFlush hexec).sameRegisters
  obtain ⟨hmem, hunordered, hinputs, hgamma, hcfgErr, hcfg'⟩ := exec_sameSource hexec
  refine ⟨_, es, hexec, htrace, ?_, flushRun_seq _, hdly, hdes.cs0, hdes.cs1, hlatch, hrw, flushRun_lastCode _, hdither,
    hneg, hwin', hvalid', hbase, hcfgErr, hcfg', hgamma, fun a => by rw [hmem], hunordered, hinputs,
    (execFlush_onlyFlush hexec).readLog_eq⟩
  simp only [startOp_win, startOp_cfg, pageSelects_eq] at hselects
  exact hselects.trans (List.flatMap_map ..)

end Sys2Proof.Machine

/-! PROOFS. A FLUSH without line faults (O24, O25): the events it appends, written out from the packed records (`flushEvents`),
and what the panels latch of them. -/

namespace Sys2Proof.Machine

open Sys2Proof

/-! ### Fault-free sending -/

theorem FaultFree.first {m n : Nat} {s : State} (h : FaultFree (m + n) s) : FaultFree m s := by
  obtain ⟨rest, hdraws⟩ := h
  exact ⟨List.replicate n .ok ++ rest, by rw [hdraws, List.replicate_add, List.append_assoc]⟩

theorem FaultFree.drop {m n : Nat} {s t : State} (h : FaultFree (m + n) s) (ht : t.lineDraws = s.lineDraws.drop m) :
    FaultFree n t := by
  obtain ⟨rest, hdraws⟩ := h
  refine ⟨rest, ?_⟩
  rw [ht, hdraws, List.replicate_add, List.append_assoc, List.drop_left' List.length_replicate]

/-- If the line layer answers OK to the next `n` bytes, then from `s` to `t` exactly the events `es` were driven, `n` answers
used up and no error recorded. -/
def Sends (s t : State) (n : Nat) (es : List BusEvent) : Prop :=
  FaultFree n s → Drove s t es ∧ t.lineDraws = s.lineDraws.drop n ∧
    t.firstErr = s.firstErr ∧ t.lineCode = s.lineCode ∧ t.errInfo = s.errInfo

theorem Sends.trans {s t u : State} {l m n : Nat} {es fs : List BusEvent} (h : Sends s t m es) (k : Sends t u n fs)
    (hl : l = m + n) : Sends s u l (es ++ fs) := by
  intro hfree
  rw [hl] at hfree ⊢
  obtain ⟨hdrove, hdraws, hfirst, hcode, hinfo⟩ := h hfree.first
  obtain ⟨kdrove, kdraws, kfirst, kcode, kinfo⟩ := k (hfree.drop hdraws)
  refine ⟨hdrove.trans kdrove, ?_, kfirst.trans hfirst, kcode.trans hcode, kinfo.trans hinfo⟩
  rw [kdraws, hdraws, List.drop_drop]

/-- Driving events takes no answer and records nothing. -/
theorem Drove.sends {s t : State} {es : List BusEvent} (h : Drove s t es) (hdraws : t.lineDraws = s.lineDraws)
    (hrecord : t.firstErr = s.firstErr ∧ t.lineCode = s.lineCode ∧ t.errInfo = s.errInfo) : Sends s t 0 es :=
  fun _ => ⟨h, hdraws, hrecord⟩

theorem Sends.refl (s : State) : Sends s s 0 [] := (Drove.of_same rfl rfl).sends rfl ⟨rfl, rfl, rfl⟩

theorem FaultFree.lineDraws_cons {n : Nat} {s : State} (h : FaultFree (n + 1) s) : ∃ ds, s.lineDraws = .ok :: ds := by
  obtain ⟨rest, hdraws⟩ := h
  exact ⟨_, hdraws⟩

theorem emitByte_sends (c : ByteCtx) (b : Byte) (s : State) : Sends s (emitByte c b s) 1 (emitEvents s.cfg b) := by
  intro hfree
  obtain ⟨ds, hdraws⟩ := hfree.lineDraws_cons
  have hdrove := emitByte_drove c b s
  rw [nextDraw_eq hdraws] at hdrove
  refine ⟨hdrove, ?_⟩
  rw [emitByte_ok (nextDraw_eq hdraws), takeDraw_eq, List.drop_one]
  exact ⟨rfl, rfl, rfl, rfl⟩

theorem sendBytes_sends (h : Panel) (page n k : Nat) (bs : List Byte) (s : State) :
    Sends s (sendBytes h page n k bs s).2 bs.length (bs.flatMap (emitEvents s.cfg)) := by
  induction bs generalizing k s with
  | nil => exact .refl s
  | cons b bs ih =>
    intro hfree
    obtain ⟨ds, hdraws⟩ := hfree.lineDraws_cons
    have hbyte : Sends s (emitByte (transferCtx h page n k) b { s with seq := .emit page h k }) 1 (emitEvents s.cfg b) :=
      emitByte_sends _ b { s with seq := .emit page h k }
    have hrest := ih (k + 1) (emitByte (transferCtx h page n k) b { s with seq := .emit page h k })
    rw [(emitByte_onlyBus _ b { s with seq := .emit page h k }).cfg_win.1] at hrest
    rw [sendBytes_cons_ok hdraws]
    exact hbyte.trans hrest (Nat.add_comm ..) hfree

/-! ### Transfers and pages -/

/-- The events of a transfer (R230). -/
def transferEvents (p : Params) (r : PageRecord) : List BusEvent :=
  (selectEvents r.panel .cmd ++ (commandBytes p r).flatMap (emitEvents p)) ++
    ([.mode .data] ++ r.bytes.flatMap (emitEvents p))

theorem select_sends (h : Panel) (m : BusMode) (s : State) : Sends s (setMode m (chipSelect h s)) 0 (selectEvents h m) :=
  ((chipSelect_drove h s).trans (setMode_drove m _)).sends rfl ⟨rfl, rfl, rfl⟩

theorem sendCommands_sends (r : PageRecord) (s : State) : Sends s (sendCommands r s).2 3
    (selectEvents r.panel .cmd ++ (commandBytes s.cfg r).flatMap (emitEvents s.cfg)) :=
  (select_sends r.panel .cmd s).trans (sendBytes_sends _ _ _ _ _ _) rfl

theorem sendData_sends (r : PageRecord) (s : State) : Sends s (sendData r s).2 r.bytes.length
    ([.mode .data] ++ r.bytes.flatMap (emitEvents s.cfg)) :=
  ((setMode_drove .data s).sends rfl ⟨rfl, rfl, rfl⟩).trans (sendBytes_sends _ _ _ _ _ _) (Nat.zero_add _).symm

/-- Without a fault the data phase follows the command phase (R230). -/
theorem transfer_of_faultFree {s : State} (r : PageRecord) (h : FaultFree 3 s) :
    (transfer r s).2 = (sendData r (sendCommands r s).2).2 := by
  obtain ⟨ds, hdraws⟩ := h
  obtain ⟨t, hcmds, -⟩ := sendBytes_ok (s := setMode .cmd (chipSelect r.panel s)) r.panel r.page r.bytes.length 0
    (commandBytes s.cfg r) hdraws
  have hsent : sendCommands r s = (true, t) := hcmds
  rw [transfer_of_commands_ok hsent, hsent]

theorem transfer_sends (r : PageRecord) (s : State) :
    Sends s (transfer r s).2 (3 + r.bytes.length) (transferEvents s.cfg r) := by
  intro hfree
  have hcfg : (sendCommands r s).2.cfg = s.cfg :=
    (((chipSelect_onlyBus r.panel s).trans (setMode_onlyBus .cmd _)).trans
      (sendBytes_onlyBus r.panel r.page r.bytes.length 0 (commandBytes s.cfg r) _)).cfg_win.1
  have hdata := sendData_sends r (sendCommands r s).2
  rw [hcfg] at hdata
  rw [transfer_of_faultFree r hfree.first]
  exact (sendCommands_sends r s).trans hdata rfl hfree

theorem transfers_sends (rs : List PageRecord) (s : State) : Sends s (rs.foldl (fun s r => (transfer r s).2) s)
    (rs.map fun r => 3 + r.bytes.length).sum (rs.flatMap (transferEvents s.cfg)) := by
  induction rs generalizing s with
  | nil => exact .refl s
  | cons r rs ih =>
    have hrest := ih (transfer r s).2
    rw [(transfer_onlyBus r s).cfg_win.1] at hrest
    exact (transfer_sends r s).trans hrest (List.sum_cons ..)

/-- The events of a page (R195, R238, R257). -/
def pageEvents (s : State) (p : Nat) : List BusEvent := (packRow s p).flatMap (transferEvents s.cfg) ++ deselects

/-- The bytes of a page (R197, R351). -/
def pageBytes (p : Params) (w : Window) : Nat :=
  (([Panel.left, Panel.right].filter fun h => touches p w h).map fun h => 3 + (windowColumns p w h).length).sum

theorem flushBytes_eq (p : Params) (w : Window) : flushBytes p w = (windowPages w).length * pageBytes p w := rfl

theorem packRow_bytes (s : State) (p : Nat) :
    ((packRow s p).map fun r => 3 + r.bytes.length).sum = pageBytes s.cfg s.win := by
  simp [packRow, pageBytes, panelRecord, panelBytes, Function.comp_def]

theorem emitPage_sends (s : State) (p : Nat) : Sends s (emitPage s p) (pageBytes s.cfg s.win) (pageEvents s p) := by
  have htransfers := transfers_sends (packRow s p) s
  rw [packRow_bytes] at htransfers
  exact htransfers.trans ((deselectAll_drove _).sends rfl ⟨rfl, rfl, rfl⟩) rfl

/-- A page's events depend on what was packed, which no bus operation writes. -/
theorem pageEvents_congr {s t : State} (hcfg : t.cfg = s.cfg) (hwin : t.win = s.win) (hneg : t.neg = s.neg)
    (hbp : t.bp = s.bp) : pageEvents t = pageEvents s := by
  funext p
  simp only [pageEvents, packRow, panelRecord, panelBytes, hcfg, hwin, hneg, hbp]

theorem OnlyBus.pageEvents_eq {s t : State} (h : OnlyBus s t) : pageEvents t = pageEvents s := by
  obtain ⟨_, _, _, _, _, _, _, _, _, rfl⟩ := h
  exact pageEvents_congr rfl rfl rfl rfl

theorem emitPages_sends (ps : List Nat) (s : State) :
    Sends s (ps.foldl emitPage s) (ps.length * pageBytes s.cfg s.win) (ps.flatMap (pageEvents s)) := by
  induction ps generalizing s with
  | nil => rw [List.length_nil, Nat.zero_mul]; exact .refl s
  | cons p ps ih =>
    have hbus := emitPage_onlyBus s p
    have hrest := ih (emitPage s p)
    rw [hbus.pageEvents_eq, hbus.cfg_win.1, hbus.cfg_win.2] at hrest
    exact (emitPage_sends s p).trans hrest (by rw [List.length_cons, Nat.succ_mul, Nat.add_comm])

/-! ### The whole FLUSH -/

@[simp] theorem packed_neg (s : State) : (packed s).neg = s.neg := by simp [packed]
@[simp] theorem packed_bp (s : State) :
    (packed s).bp = planeBits (quantizedPlane s.dither s.cfg.width s.cfg.height (convertedPlane s)) := by simp [packed]

/-- The events of a FLUSH without line faults (R257). -/
def flushEvents (s : State) : List BusEvent := (windowPages s.win).flatMap (pageEvents (packed s))

/-- They depend on the registers and the pixels converted (R270). -/
theorem flushEvents_congr {s t : State} (hcfg : t.cfg = s.cfg) (hwin : t.win = s.win) (hneg : t.neg = s.neg)
    (hdither : t.dither = s.dither) (hplane : convertedPlane t = convertedPlane s) : flushEvents t = flushEvents s := by
  have hpages : pageEvents (packed t) = pageEvents (packed s) := by
    apply pageEvents_congr <;> simp only [packed_cfg, packed_win, packed_neg, packed_bp, hcfg, hwin, hneg, hdither, hplane]
  rw [flushEvents, flushEvents, hpages, hwin]

theorem flushEvents_startOp (s : State) : flushEvents (startOp s) = flushEvents s := flushEvents_congr rfl rfl rfl rfl rfl

theorem packed_sends (s : State) : Sends s (packed s) 0 [] := by
  obtain ⟨q, I, bp, l0, l1, hpacked⟩ := packed_onlyWork s
  rw [hpacked]
  exact (Drove.of_same rfl rfl).sends rfl ⟨rfl, rfl, rfl⟩

theorem finishFlush_sends (s : State) : Sends s (finishFlush s) 0 [] :=
  (Drove.of_same rfl rfl).sends rfl ⟨rfl, rfl, rfl⟩

theorem flushRun_sends (s : State) : Sends s (flushRun s) (flushBytes s.cfg s.win) (flushEvents s) := by
  have hemit : Sends (packed s) (emitPhase (packed s)) _ _ := emitPages_sends (windowPages (packed s).win) (packed s)
  rw [packed_cfg, packed_win, ← flushBytes_eq] at hemit
  have hrun := ((packed_sends s).trans hemit (Nat.zero_add _).symm).trans (finishFlush_sends _) rfl
  rwa [List.nil_append, List.append_nil] at hrun

/-- A FLUSH of an admitted plane without line faults: its events, the answers it leaves and its status (R257, R258). -/
theorem flush_faultFree {s : State} (hcfg : s.cfgErr = false) (hwin : s.winValid = true) (hadmitted : PlaneAdmitted s)
    (hfree : FaultFree (flushBytes s.cfg s.win) s) :
    ∃ t, exec .flush s = .next t ∧ Drove s t (flushEvents s) ∧
      t.lineDraws = s.lineDraws.drop (flushBytes s.cfg s.win) ∧
      t.lastCode = .ok ∧ t.lineCode = 0 ∧ t.errInfo = ErrInfo.zero := by
  obtain ⟨hdrove, hdraws, hfirst, hcode, hinfo⟩ := flushRun_sends (startOp s) hfree
  rw [flushEvents_startOp] at hdrove
  refine ⟨_, exec_flush_of_planeAdmitted hcfg hwin hadmitted, hdrove, hdraws, ?_, hcode, hinfo⟩
  rw [flushRun_lastCode, hfirst]
  rfl

/-! ### What the panels latch -/

theorem latched_append (l : Lines) (es fs : List BusEvent) :
    latched l (es ++ fs) = latched l es ++ latched (linesAfter l es) fs := by
  induction es generalizing l with
  | nil => rfl
  | cons e es ih =>
    cases e with
    | e v => cases v with
      | asserted => exact congrArg (_ :: ·) (ih _)
      | deasserted => exact ih _
    | cs | mode | data | rw | wait | fault => exact ih _

theorem latched_flatMap {α : Type} {f : α → List BusEvent} {g : α → List Latched} (h : ∀ l a, latched l (f a) = g a)
    (l : Lines) (as : List α) : latched l (as.flatMap f) = as.flatMap g := by
  induction as generalizing l with
  | nil => rfl
  | cons a as ih => rw [List.flatMap_cons, List.flatMap_cons, latched_append, h, ih]

/-- Panel `h` alone is selected, with mode `m` (R216, R218). -/
def SelectedFor (h : Panel) (m : BusMode) (l : Lines) : Prop := ∀ b, ⟨l.cs0, l.cs1, l.mode, b⟩ = latchedBy h m b

theorem selectedFor_selectEvents (h : Panel) (m : BusMode) (l : Lines) :
    SelectedFor h m (linesAfter l (selectEvents h m)) := by
  cases h <;> exact fun _ => rfl

theorem SelectedFor.setMode {h : Panel} {m : BusMode} {l : Lines} (hl : SelectedFor h m l) (m' : BusMode) :
    SelectedFor h m' (linesAfter l [.mode m']) := fun b => by
  have hmode := congrArg (fun x : Latched => { x with mode := m', byte := b }) (hl b)
  cases h <;> exact hmode

/-- Each byte is latched once, by the panel selected, and leaves the selection (R220). -/
theorem SelectedFor.bytes {h : Panel} {m : BusMode} {l : Lines} (hl : SelectedFor h m l) (p : Params) (bs : List Byte) :
    latched l (bs.flatMap (emitEvents p)) = bs.map (latchedBy h m) ∧
      SelectedFor h m (linesAfter l (bs.flatMap (emitEvents p))) := by
  induction bs generalizing l with
  | nil => exact ⟨rfl, hl⟩
  | cons b bs ih =>
    have hbyte : latched l (emitEvents p b) = [latchedBy h m b] := congrArg ([·]) (hl b)
    obtain ⟨hlatched, hafter⟩ := ih (l := linesAfter l (emitEvents p b)) hl
    rw [List.flatMap_cons, latched_append, linesAfter_append, hbyte, hlatched]
    exact ⟨rfl, hafter⟩

/-- What the panel of a record latches of its transfer (R230). -/
def transferLatches (p : Params) (r : PageRecord) : List Latched :=
  (commandBytes p r).map (latchedBy r.panel .cmd) ++ r.bytes.map (latchedBy r.panel .data)

theorem latched_transferEvents (p : Params) (l : Lines) (r : PageRecord) :
    latched l (transferEvents p r) = transferLatches p r := by
  obtain ⟨hcmds, hafter⟩ := (selectedFor_selectEvents r.panel .cmd l).bytes p (commandBytes p r)
  obtain ⟨hdata, -⟩ := (hafter.setMode .data).bytes p r.bytes
  have hselect : latched l (selectEvents r.panel .cmd) = [] := rfl
  rw [transferEvents, latched_append, latched_append, hselect, hcmds, linesAfter_append, latched_append, hdata]
  rfl

theorem latched_pageEvents (s : State) (l : Lines) (p : Nat) :
    latched l (pageEvents s p) = (packRow s p).flatMap (transferLatches s.cfg) := by
  rw [pageEvents, latched_append, latched_flatMap (latched_transferEvents s.cfg)]
  exact List.append_nil _

/-- The records of a page are those of the panels touched, left first (R195). -/
theorem packRow_flatMap {α : Type} (s : State) (p : Nat) (g : PageRecord → List α) : (packRow s p).flatMap g =
    (if s.win.xs.toNat < s.cfg.width / 2 then g (panelRecord s .left p) else []) ++
    (if s.cfg.width / 2 ≤ s.win.xe.toNat then g (panelRecord s .right p) else []) := by
  simp only [packRow, List.filter_cons, List.filter_nil, touches_left_iff, touches_right_iff]
  split_ifs <;> simp

theorem transferLatches_panelRecord (s : State) (h : Panel) (p : Nat) : transferLatches s.cfg (panelRecord s h p) =
    [latchedBy h .cmd s.cfg.cmdDisplayOn, latchedBy h .cmd (colCmdByte s.cfg (columnStart s.cfg s.win h)),
      latchedBy h .cmd (pageCmdByte s.cfg p)] ++
    (List.range (lastColumn s.cfg s.win h + 1 - firstColumn s.cfg s.win h)).map (fun j =>
      latchedBy h .data (packByte s.bp s.neg (firstColumn s.cfg s.win h + j) p)) := by
  simp [transferLatches, commandBytes, panelRecord, panelBytes, windowColumns]

/-- Settles O24: the latches of each page are those of its records, packed from the quantized plane. -/
theorem flushLatchesPackedPages : Obligations.FlushLatchesPackedPages := by
  rintro s bp B hcfg hwin hadmitted hfree rfl rfl
  obtain ⟨t, hexec, ⟨htrace, -⟩, -, hlast, hcode, hinfo⟩ := flush_faultFree hcfg hwin hadmitted hfree
  refine ⟨t, flushEvents s, hexec, htrace, ?_, hlast, hcode, hinfo⟩
  rw [flushEvents, latched_flatMap (latched_pageEvents (packed s))]
  simp only [packRow_flatMap, transferLatches_panelRecord]
  simp only [packed_cfg, packed_win, packed_neg, packed_bp]
  rfl

/-! ### A second FLUSH -/

/-- A line set before and after an event stands as if set after it alone. -/
theorem applyEvent_absorb (l : Lines) (e f : BusEvent) :
    applyEvent (applyEvent (applyEvent l e) f) e = applyEvent (applyEvent l f) e := by
  rcases e with ⟨_ | _, _⟩ | _ | _ | _ | _ | _ | _ <;> cases f with
  | cs i v => cases i <;> rfl
  | mode | data | e | rw | wait | fault => rfl

theorem linesAfter_absorb (l : Lines) (e : BusEvent) (es : List BusEvent) :
    applyEvent (linesAfter (applyEvent l e) es) e = applyEvent (linesAfter l es) e := by
  induction es generalizing l with
  | nil => exact applyEvent_absorb l e (.fault 0) -- a FAULT record sets no line
  | cons f es ih => calc
      applyEvent (linesAfter (applyEvent (applyEvent l e) f) es) e
      _ = applyEvent (linesAfter (applyEvent (applyEvent (applyEvent l e) f) e) es) e := (ih _).symm
      _ = applyEvent (linesAfter (applyEvent (applyEvent l f) e) es) e := by rw [applyEvent_absorb]
      _ = applyEvent (linesAfter (applyEvent l f) es) e := ih _

/-- The same events once more leave the lines as they are (R211). -/
theorem linesAfter_idem (l : Lines) (es : List BusEvent) : linesAfter (linesAfter l es) es = linesAfter l es := by
  induction es using List.reverseRecOn with
  | nil => rfl
  | append_singleton es e ih =>
    have hlast (k : Lines) : linesAfter k (es ++ [e]) = applyEvent (linesAfter k es) e := linesAfter_append k es [e]
    rw [hlast, hlast, linesAfter_absorb, ih]

/-- Where no store is pending, the pixels read are those of the memory, whichever FLUSH reads them (R78). -/
theorem convertedPlane_congr {s t : State} (hsource : SameSource s t) (hbase : t.fbBase = s.fbBase)
    (hnone : s.unordered = []) : convertedPlane t = convertedPlane s := by
  obtain ⟨hmem, hunordered, -, hgamma, -, hcfg⟩ := hsource
  have hbyte (a : Nat) : memReadByte t a = memReadByte s a := by
    rw [memReadByte_no_race s a (racingBytes_nil s a hnone),
      memReadByte_no_race t a (racingBytes_nil t a (hunordered.trans hnone)), startByte, startByte, hmem]
  have hpixel : convertPixel t = convertPixel s := by
    funext y x
    simp only [convertPixel, memRead16, hbyte, hcfg, hgamma, hbase]
  have hrow : convertRow t = convertRow s := by
    funext y
    rw [convertRow, convertRow, hpixel, hcfg]
  rw [convertedPlane, convertedPlane, hrow, hcfg]

/-- Settles O25: the first FLUSH keeps all that its events depend on. -/
theorem reflushIsIdempotent : Obligations.ReflushIsIdempotent := by
  intro s hcfg hvalid hadmitted hnone hfree
  rw [Nat.two_mul] at hfree
  obtain ⟨t, hexec, ⟨htrace, hlines⟩, hdraws, hlast, hcode, hinfo⟩ :=
    flush_faultFree hcfg hvalid hadmitted hfree.first
  have hsource := exec_sameSource hexec
  have ⟨_, _, _, _, hcfgErr, hcfg'⟩ := hsource
  obtain ⟨⟨hwin, hvalid'⟩, ⟨hdither, hneg⟩, hbase⟩ := (execFlush_onlyFlush hexec).sameRegisters
  have hadmitted' : PlaneAdmitted t := by
    rw [PlaneAdmitted, hcfg', hbase]
    exact hadmitted
  have hfree' : FaultFree (flushBytes t.cfg t.win) t := by
    rw [hcfg', hwin]
    exact hfree.drop hdraws
  have hevents : flushEvents t = flushEvents s :=
    flushEvents_congr hcfg' hwin hneg hdither (convertedPlane_congr hsource hbase hnone)
  obtain ⟨u, hexec', ⟨htrace', hlines'⟩, -, hlast', hcode', hinfo'⟩ :=
    flush_faultFree (hcfgErr.trans hcfg) (hvalid'.trans hvalid) hadmitted' hfree'
  rw [hevents] at htrace' hlines'
  rw [hlines, linesAfter_idem] at hlines'
  exact ⟨t, u, flushEvents s, hexec, hexec', htrace, htrace', hlast'.trans hlast.symm, hcode'.trans hcode.symm,
    hinfo'.trans hinfo.symm, hlines'.trans hlines.symm⟩

end Sys2Proof.Machine

/-! PROOFS. What the block turns down: an overlapping transaction and an unsupported register access (R301, R302; O7), a
window outside the geometry (R292; O18), and a FLUSH with no valid window (R295; O20). -/

namespace Sys2Proof.Machine

open Sys2Proof

/-! ### Refused accesses -/

/-- A width other than 32, or an offset that is no multiple of 4, decodes to no instruction (R72). -/
theorem decodeHost_unsupported {t : Transaction} (h : t.width ≠ 32 ∨ t.off.toNat % 4 ≠ 0) :
    ∃ r, decodeHost t = .error r := by
  by_cases hwidth : t.width = 32
  · have hoff : ¬ alignedOff t.off = true := fun ha => h.elim (· hwidth) (· ((alignedOff_iff _).1 ha))
    exact ⟨.alignment, by simp [decodeHost, hwidth, hoff]⟩
  · exact ⟨.width, if_pos hwidth⟩

theorem step_overlap {s : State} {t : Transaction} {rest : List HostEvent} (hinputs : s.inputs = .overlap t :: rest) :
    step s = .refused .hostOverlap := by
  simp [step, nextEvent, hinputs]

theorem step_access {s : State} {t : Transaction} {rest : List HostEvent} (hidle : s.seq = .idle)
    (hinputs : s.inputs = .access t :: rest) : step s = runAccess t { s with inputs := rest } := by
  simp [step, nextEvent, hidle, hinputs]

theorem runAccess_of_error {t : Transaction} {r : Reject} (h : decodeHost t = .error r) (s : State) :
    runAccess t s = .refused .unsupportedAccess := by
  simp [runAccess, h]

/-- Settles O7: the overlap mark is looked at before the sequencer, and an unsupported access fails to decode. -/
theorem stepRefusesOverlapAndBadAccess : Obligations.StepRefusesOverlapAndBadAccess := by
  refine ⟨fun s t rest hinputs => step_overlap hinputs, fun s t rest hidle hinputs hbad => ?_⟩
  obtain ⟨r, hreject⟩ := decodeHost_unsupported hbad
  exact (step_access hidle hinputs).trans (runAccess_of_error hreject _)

/-! ### Operations turned down by the window -/

theorem exec_setWindow_of_not_ok {s : State} {xs ys xe ye : Byte} (hcfg : s.cfgErr = false)
    (hbad : ¬ windowOk s.cfg (windowOf xs ys xe ye) = true) : exec (.setWindow xs ys xe ye) s =
      .next { startOp s with winValid := false, lastCode := .invalidWindow } := by
  simp [exec, execSetWindow, storeWindow, hcfg, hbad]

/-- Settles O18: each of the four bounds is necessary for the window invariant of the window in page form. -/
theorem setWindowRejectsWindow : Obligations.SetWindowRejectsWindow := by
  intro s xs ys xe ye hcfg hbroken
  obtain ⟨hfirst, hlast⟩ := windowOf_pages xs ys xe ye
  have hbad : ¬ windowOk s.cfg (windowOf xs ys xe ye) = true := by
    rw [windowOk_iff, hfirst, hlast]
    rintro ⟨hxs, hxe, hys, hye⟩
    obtain h | h | h | h := hbroken
    · exact absurd hxs h.not_ge
    · exact absurd hxe h.not_gt
    · exact absurd hys h.not_ge
    · exact absurd hye h.not_gt
  exact exec_setWindow_of_not_ok hcfg hbad

/-- Settles O20: past the configuration gate, a FLUSH asks for a valid window before anything else (R254). -/
theorem flushWithoutWindow : Obligations.FlushWithoutWindow :=
  fun _ hcfg hwin => exec_flush_of_noWindow hcfg hwin

end Sys2Proof.Machine

/-! PROOFS. Reset (R330 to R333): what a reset event leaves (O56), the power-on state as such a reset (O36) and the host's first
reads after it (O57), the idle block that waits (R336; O8), and a transaction cut off by a reset (R332; O58). -/

namespace Sys2Proof.Machine

open Sys2Proof

/-! ### The reset state -/

/-- Beyond LINES_OK, reset checks the geometry of the configuration it finds (R333, R11). -/
theorem cfgError_foundConfig_iff (l : Bool) (p : Params) : cfgError (foundConfig l p) = true ↔
    ¬ (l = true ∧ p.width % 2 = 0 ∧ 2 ≤ p.width ∧ p.width ≤ 256 ∧ p.height % 8 = 0 ∧ 8 ≤ p.height ∧ p.height ≤ 256 ∧
      p.width / 2 ≤ p.panelCols ∧ p.height / 8 ≤ p.panelPages) := by
  rw [cfgError, Bool.not_eq_true', ← Bool.not_eq_true, Bool.and_eq_true, geometryOk_iff]
  rfl

/-- A reset keeps of the state it meets only the fields named here, so it is a reset of any state with the same ones. -/
theorem hwReset_atReset (l : Bool) {s t : State} (hgamma : t.gamma = s.gamma) (hcfg : t.cfg = s.cfg)
    (hmem : t.mem = s.mem ∧ t.unordered = s.unordered) (hlog : t.readLog = s.readLog) :
    AtReset l s (hwReset l t) where
  ctrl := ⟨rfl, rfl⟩
  win := ⟨rfl, rfl⟩
  fbBase := rfl
  lastCode := rfl
  cfgErr := by rw [hwReset_cfgErr, hcfg]; exact cfgError_foundConfig_iff l s.cfg
  lineCode := rfl
  errInfo := rfl
  firstErr := rfl
  lines := rfl
  seq := rfl
  dly := rfl
  gamma := hgamma
  cfg := by rw [hwReset_cfg, hcfg]; rfl
  memory := hmem
  readLog := hlog

theorem step_reset {s : State} {l : Bool} {rest : List HostEvent} (hinputs : s.inputs = .reset l :: rest) :
    step s = .next (hwReset l { s with inputs := rest }) := by
  simp [step, nextEvent, hinputs]

/-- Settles O56: a reset event is taken at any sequencer position, and keeps what `hwReset_atReset` names. -/
theorem resetValues : Obligations.ResetValues := fun _ l _ hinputs =>
  ⟨_, step_reset hinputs, hwReset_atReset l rfl rfl ⟨rfl, rfl⟩ rfl, rfl, rfl⟩

/-! ### Power-on -/

/-- Power-on reset is a reset that finds every line connected, with an empty trace and no earlier reset before it. -/
theorem reset_eq_hwReset : State.reset = hwReset true { State.reset with trace := [], workCount := 0 } := rfl

/-- Settles O36: the invariant holds after any reset with legal parameters, so after the one at power-on. -/
theorem invHoldsAtReset : Obligations.InvHoldsAtReset := by
  unfold Obligations.InvHoldsAtReset
  rw [reset_eq_hwReset]
  exact hwReset_inv true (s := { State.reset with trace := [], workCount := 0 }) rfl rfl (List.forall_mem_nil _)

theorem statusWord_reset : statusWord State.reset = 0x00000000 := rfl

theorem errInfoWord_reset : errInfoWord State.reset = 0x00000000 := rfl

theorem exec_rdStatus_of_word {s : State} {v : Word} (h : statusWord s = v) : exec .rdStatus s = .next (answer v s) :=
  h ▸ rfl

theorem exec_rdErrInfo_of_word {s : State} {v : Word} (h : errInfoWord s = v) :
    exec .rdErrInfo s = .next (answer v s) :=
  h ▸ rfl

/-- Settles O57: each read answers its register word, which the reset values of R330 make the constant stated. -/
theorem readsAfterPowerOn : Obligations.ReadsAfterPowerOn :=
  ⟨readCtrlReturnsBits.2, readWindowReturnsFields.2, exec_rdStatus_of_word statusWord_reset,
    exec_rdErrInfo_of_word errInfoWord_reset, readGeomReturnsGeometry.2.1 State.reset rfl rfl, rfl, rfl⟩

/-- Settles O8: with no event pending the step is that of the sequencer position, and IDLE waits. -/
theorem idleBlockWaits : Obligations.IdleBlockWaits := fun _ hidle hinputs =>
  (step_of_no_inputs hinputs).trans (busyStep_idle hidle)

/-! ### A transaction appends to the trace -/

theorem Ran.trace_prefix {s t : State} {css : List BusEvent} (h : Ran s t css) : s.trace <+: t.trace :=
  let ⟨es, ⟨htrace, _⟩, _⟩ := h
  ⟨es, htrace.symm⟩

/-- Past the gates a FLUSH runs (`flushRun_ran`); a FLUSH turned down shows nothing (R251, R295). -/
theorem exec_flush_trace_prefix {s t : State} (h : exec .flush s = .next t) : s.trace <+: t.trace := by
  cases hcfg : s.cfgErr with
  | true => rw [exec_flush_of_cfgErr hcfg] at h; cases h; exact List.prefix_rfl
  | false =>
    cases hwin : s.winValid with
    | false => rw [exec_flush_of_noWindow hcfg hwin] at h; cases h; exact List.prefix_rfl
    | true => rw [flush_next_eq hcfg hwin h]; exact (flushRun_ran (startOp s)).trace_prefix

theorem rawOp_trace_prefix (h : Panel) (m : BusMode) (b : Byte) (s : State) :
    s.trace <+: (if (startOp s).cfgErr then failWith .config (startOp s)
      else finishOp (rawTransfer h m b (startOp s))).trace := by
  split
  · exact List.prefix_rfl
  · exact (finishRaw_ran h m b (startOp s)).trace_prefix

/-- From IDLE no BUS form runs; FLUSH, BUS_CMD and BUS_DATA append what they show, the other transactions nothing. -/
theorem exec_trace_prefix {i : Instr} {s t : State} (hidle : s.seq = .idle) (h : exec i s = .next t) :
    s.trace <+: t.trace := by
  have hw := exec_writes h
  cases i with
  | flush => exact exec_flush_trace_prefix h
  | busCmd p b => cases h; exact rawOp_trace_prefix p .cmd b s
  | busData p b => cases h; exact rawOp_trace_prefix p .data b s
  | displayOn | setColumn | setPage | pageData => exact nomatch h.symm.trans (flushByte_idle hidle _)
  | rawCmd | rawData => exact nomatch h.symm.trans (rawByte_idle hidle _ _)
  | setWindow => obtain ⟨w, v, c, rfl⟩ := hw; exact List.prefix_rfl
  | wrCtrl | wrFbBase => cases hw; exact List.prefix_rfl
  | _ => obtain ⟨log, rfl⟩ := hw; exact List.prefix_rfl

/-! ### A transaction cut off -/

theorem resetCut_trace {s t : State} {es : List BusEvent} (htrace : t.trace = s.trace ++ es) (l : Bool) (n : Nat) :
    (resetCut l n s t).trace = s.trace ++ es.take n ++ resetEvents := by
  simp [resetCut, htrace]

section
variable {s : State} {tr : Transaction} {n : Nat} {l : Bool} {rest : List HostEvent} {i : Instr}

theorem step_resetDuring (hidle : s.seq = .idle) (hinputs : s.inputs = .resetDuring tr n l :: rest) :
    step s = cutAccess tr n l { s with inputs := rest } := by
  simp [step, nextEvent, hidle, hinputs]

theorem cutAccess_of_next {u : State} (hdecode : decodeHost tr = .ok i) (hexec : exec i s = .next u) :
    cutAccess tr n l s = .next (resetCut l n s u) := by
  simp [cutAccess, runAccess, hdecode, hexec]

theorem cutAccess_of_fault {f : Fault} (hdecode : decodeHost tr = .ok i) (hexec : exec i s = .fault f) :
    cutAccess tr n l s = .next (hwReset l s) := by
  simp [cutAccess, runAccess, hdecode, hexec]
end

/-- Settles O58: what the transaction wrote before the cut is either reset, or no field an instruction can write
(`exec_sameSource`), or its first events, which stand after the earlier trace (`exec_trace_prefix`). -/
theorem resetCutsTransaction : Obligations.ResetCutsTransaction := by
  intro s tr n l rest i hidle hinputs hdecode
  have hstep := step_resetDuring hidle hinputs
  refine ⟨fun u hexec => ?_, fun f hexec => ?_⟩
  · obtain ⟨es, htrace⟩ := exec_trace_prefix (s := { s with inputs := rest }) hidle hexec
    obtain ⟨hmem, hunordered, hin, hgamma, -, hcfg⟩ := exec_sameSource hexec
    exact ⟨_, es, hstep.trans (cutAccess_of_next hdecode hexec), hwReset_atReset l hgamma hcfg ⟨hmem, hunordered⟩ rfl,
      hin, htrace.symm, resetCut_trace htrace.symm l n⟩
  · exact ⟨_, hstep.trans (cutAccess_of_fault hdecode hexec),
      hwReset_atReset l rfl rfl ⟨rfl, rfl⟩ rfl, rfl, rfl⟩

end Sys2Proof.Machine
